-- ==== Sys2Proof/Word.lean ====
section
/-! DEFINITION. The two word types of the core (00_scope.md R9, R12): bytes and 16-bit words. -/

namespace Sys2Proof

/-- An 8-bit register, memory or port value (R9, R12). -/
abbrev Byte := BitVec 8

/-- A 16-bit address, register pair, SP or PC (R9, R12); `+` and `-` on it are `+₁₆` and `-₁₆` (R13). -/
abbrev Word := BitVec 16

end Sys2Proof
end

