-- ==== Sys2Proof/Syntax.lean ====
section
/-! DEFINITION. `Instr`: one constructor for each row of spec/opcode_table.json (30_encoding.md R130). A
constructor is named by the row's mnemonic; its argument is the operand `d8`, `p8`, `d16` or `a16` that follows
the opcode byte (R122). The 12 undocumented bytes (R131) are rows too. The rows with an operand stand first,
then the rows without, each in the order of the opcode bytes (Lean's runtime wants constructors with arguments
among the first 244). -/

namespace Sys2Proof

/-- The instructions, one per row of the opcode table. -/
inductive Instr where
  | lxiB (d16 : Word)
  | mviB (d8 : Byte)
  | mviC (d8 : Byte)
  | lxiD (d16 : Word)
  | mviD (d8 : Byte)
  | mviE (d8 : Byte)
  | lxiH (d16 : Word)
  | shld (a16 : Word)
  | mviH (d8 : Byte)
  | lhld (a16 : Word)
  | mviL (d8 : Byte)
  | lxiSP (d16 : Word)
  | sta (a16 : Word)
  | mviM (d8 : Byte)
  | lda (a16 : Word)
  | mviA (d8 : Byte)
  | jnz (a16 : Word)
  | jmp (a16 : Word)
  | cnz (a16 : Word)
  | adi (d8 : Byte)
  | jz (a16 : Word)
  | cz (a16 : Word)
  | call (a16 : Word)
  | aci (d8 : Byte)
  | jnc (a16 : Word)
  | outPort (p8 : Byte)
  | cnc (a16 : Word)
  | sui (d8 : Byte)
  | jc (a16 : Word)
  | inPort (p8 : Byte)
  | cc (a16 : Word)
  | sbi (d8 : Byte)
  | jpo (a16 : Word)
  | cpo (a16 : Word)
  | ani (d8 : Byte)
  | jpe (a16 : Word)
  | cpe (a16 : Word)
  | xri (d8 : Byte)
  | jp (a16 : Word)
  | cp (a16 : Word)
  | ori (d8 : Byte)
  | jm (a16 : Word)
  | cm (a16 : Word)
  | cpi (d8 : Byte)
  | nop
  | staxB
  | inxB
  | inrB
  | dcrB
  | rlc
  | undocumented08
  | dadB
  | ldaxB
  | dcxB
  | inrC
  | dcrC
  | rrc
  | undocumented10
  | staxD
  | inxD
  | inrD
  | dcrD
  | ral
  | undocumented18
  | dadD
  | ldaxD
  | dcxD
  | inrE
  | dcrE
  | rar
  | undocumented20
  | inxH
  | inrH
  | dcrH
  | daa
  | undocumented28
  | dadH
  | dcxH
  | inrL
  | dcrL
  | cma
  | undocumented30
  | inxSP
  | inrM
  | dcrM
  | stc
  | undocumented38
  | dadSP
  | dcxSP
  | inrA
  | dcrA
  | cmc
  | movBB
  | movBC
  | movBD
  | movBE
  | movBH
  | movBL
  | movBM
  | movBA
  | movCB
  | movCC
  | movCD
  | movCE
  | movCH
  | movCL
  | movCM
  | movCA
  | movDB
  | movDC
  | movDD
  | movDE
  | movDH
  | movDL
  | movDM
  | movDA
  | movEB
  | movEC
  | movED
  | movEE
  | movEH
  | movEL
  | movEM
  | movEA
  | movHB
  | movHC
  | movHD
  | movHE
  | movHH
  | movHL
  | movHM
  | movHA
  | movLB
  | movLC
  | movLD
  | movLE
  | movLH
  | movLL
  | movLM
  | movLA
  | movMB
  | movMC
  | movMD
  | movME
  | movMH
  | movML
  | hlt
  | movMA
  | movAB
  | movAC
  | movAD
  | movAE
  | movAH
  | movAL
  | movAM
  | movAA
  | addB
  | addC
  | addD
  | addE
  | addH
  | addL
  | addM
  | addA
  | adcB
  | adcC
  | adcD
  | adcE
  | adcH
  | adcL
  | adcM
  | adcA
  | subB
  | subC
  | subD
  | subE
  | subH
  | subL
  | subM
  | subA
  | sbbB
  | sbbC
  | sbbD
  | sbbE
  | sbbH
  | sbbL
  | sbbM
  | sbbA
  | anaB
  | anaC
  | anaD
  | anaE
  | anaH
  | anaL
  | anaM
  | anaA
  | xraB
  | xraC
  | xraD
  | xraE
  | xraH
  | xraL
  | xraM
  | xraA
  | oraB
  | oraC
  | oraD
  | oraE
  | oraH
  | oraL
  | oraM
  | oraA
  | cmpB
  | cmpC
  | cmpD
  | cmpE
  | cmpH
  | cmpL
  | cmpM
  | cmpA
  | rnz
  | popB
  | pushB
  | rst0
  | rz
  | ret
  | undocumentedCB
  | rst1
  | rnc
  | popD
  | pushD
  | rst2
  | rc
  | undocumentedD9
  | undocumentedDD
  | rst3
  | rpo
  | popH
  | xthl
  | pushH
  | rst4
  | rpe
  | pchl
  | xchg
  | undocumentedED
  | rst5
  | rp
  | popPSW
  | di
  | pushPSW
  | rst6
  | rm
  | sphl
  | ei
  | undocumentedFD
  | rst7
  deriving DecidableEq, Repr

end Sys2Proof
end

