-- ==== Sys2Proof/Syntax/Fields.lean ====
section
/-! DEFINITION. The operand fields of 30_encoding.md R123 to R129, each an enumeration in the order of its
field values, and `Form`: an instruction by its format and fields, where `Instr` has one constructor per row
of the opcode table. -/

namespace Sys2Proof

/-- The seven general registers (R31). -/
inductive Reg where
  | b | c | d | e | h | l | a
  deriving DecidableEq, Repr

/-- A register field `ddd` or `sss` (R124): a register, or the memory operand M at `pair(HL)` (R32). -/
inductive Opnd where
  | reg (r : Reg)
  | m
  deriving DecidableEq, Repr

/-- The register pairs (R33). -/
inductive Pair where
  | bc | de | hl
  deriving DecidableEq, Repr

/-- The pair field `pp` of LXI, INX, DCX and DAD (R125): a register pair or SP. -/
inductive Rp where
  | pair (p : Pair)
  | sp
  deriving DecidableEq, Repr

/-- The pairs LDAX and STAX may use (R125, R160, R161). -/
inductive IdxPair where
  | bc | de
  deriving DecidableEq, Repr

/-- The ALU operation field `aaa` (R128). -/
inductive AluOp where
  | add | adc | sub | sbb | ana | xra | ora | cmp
  deriving DecidableEq, Repr

/-- The condition field `ccc` (R127). -/
inductive Cond where
  | nz | z | nc | c | po | pe | p | m
  deriving DecidableEq, Repr

/-- The 12 undocumented bytes (R131). -/
inductive Undoc where
  | u08 | u10 | u18 | u20 | u28 | u30 | u38 | uCB | uD9 | uDD | uED | uFD
  deriving DecidableEq, Repr

/-- An instruction by its format (R122) and its fields. -/
inductive Form where
  | nop
  | movRR (dst src : Reg)
  | movRM (dst : Reg)
  | movMR (src : Reg)
  | mvi (dst : Opnd) (d8 : Byte)
  | lxi (rp : Rp) (d16 : Word)
  | lda (a16 : Word)
  | sta (a16 : Word)
  | lhld (a16 : Word)
  | shld (a16 : Word)
  | ldax (p : IdxPair)
  | stax (p : IdxPair)
  | xchg
  | alu (k : AluOp) (src : Opnd)
  | aluImm (k : AluOp) (d8 : Byte)
  | inr (o : Opnd)
  | dcr (o : Opnd)
  | inx (rp : Rp)
  | dcx (rp : Rp)
  | dad (rp : Rp)
  | daa
  | rlc
  | rrc
  | ral
  | rar
  | cma
  | cmc
  | stc
  | jmp (a16 : Word)
  | jcc (cc : Cond) (a16 : Word)
  | call (a16 : Word)
  | ccc (cc : Cond) (a16 : Word)
  | ret
  | rcc (cc : Cond)
  | rst (n : Fin 8)
  | pchl
  | push (p : Pair)
  | pushPsw
  | pop (p : Pair)
  | popPsw
  | xthl
  | sphl
  | inPort (p8 : Byte)
  | outPort (p8 : Byte)
  | ei
  | di
  | hlt
  | undocumented (u : Undoc)
  deriving DecidableEq, Repr

end Sys2Proof
end

