-- ==== Sys2Proof/Decode.lean ====
section
/-! DEFINITION. Decoding and encoding (30_encoding.md). The decoder reads the fields of the opcode byte by the
formats of R122 to R129 into a `Form`, and `instrOf` names the row. The encoder is written row by row from the
`match` bytes of the opcode table. -/

namespace Sys2Proof

/-! ## Bytes of a word -/

/-- `lo8(w)` (R13). -/
def lo8 (w : Word) : Byte := w.extractLsb' 0 8

/-- `hi8(w)` (R13). -/
def hi8 (w : Word) : Byte := w.extractLsb' 8 8

/-- `{hi, lo}` (R13). -/
def joinBytes (hi lo : Byte) : Word := hi ++ lo

/-! ## The fields of the opcode byte -/

/-- Bits 7:6 of the opcode, the quadrant of R130. -/
def fieldQuadrant (op : Byte) : Nat := op.toNat / 64

/-- Bits 5:3 of the opcode: `ddd`, `ccc`, `aaa` or `nnn` (R123). -/
def fieldMid (op : Byte) : Nat := op.toNat / 8 % 8

/-- Bits 2:0 of the opcode: `sss` (R123). -/
def fieldLow (op : Byte) : Nat := op.toNat % 8

/-- Bits 5:4 of the opcode: `pp` (R123). -/
def fieldPair (op : Byte) : Nat := op.toNat / 16 % 4

/-- The register field (R124). -/
def opndOfCode : Nat → Opnd
  | 0 => .reg .b
  | 1 => .reg .c
  | 2 => .reg .d
  | 3 => .reg .e
  | 4 => .reg .h
  | 5 => .reg .l
  | 6 => .m
  | _ => .reg .a

/-- The pair field of LXI, INX, DCX and DAD (R125). -/
def rpOfCode : Nat → Rp
  | 0 => .pair .bc
  | 1 => .pair .de
  | 2 => .pair .hl
  | _ => .sp

/-- The ALU operation field (R128). -/
def aluOfCode : Nat → AluOp
  | 0 => .add
  | 1 => .adc
  | 2 => .sub
  | 3 => .sbb
  | 4 => .ana
  | 5 => .xra
  | 6 => .ora
  | _ => .cmp

/-- The condition field (R127). -/
def condOfCode : Nat → Cond
  | 0 => .nz
  | 1 => .z
  | 2 => .nc
  | 3 => .c
  | 4 => .po
  | 5 => .pe
  | 6 => .p
  | _ => .m

/-- The RST field (R129). -/
def rstOfCode (n : Nat) : Fin 8 := ⟨n % 8, Nat.mod_lt n (by decide)⟩

/-! ## From bytes to a form -/

/-- Bytes 0x00 to 0x3F (R130): column `x0` and `x8` hold NOP and the undocumented bytes. -/
def decodeMisc (op b1 : Byte) (d16 : Word) : Form :=
  match fieldLow op, fieldMid op with
  | 0, 0 => .nop
  | 0, 1 => .undocumented .u08
  | 0, 2 => .undocumented .u10
  | 0, 3 => .undocumented .u18
  | 0, 4 => .undocumented .u20
  | 0, 5 => .undocumented .u28
  | 0, 6 => .undocumented .u30
  | 0, _ => .undocumented .u38
  | 1, y => if y % 2 = 0 then .lxi (rpOfCode (fieldPair op)) d16 else .dad (rpOfCode (fieldPair op))
  | 2, 0 => .stax .bc
  | 2, 1 => .ldax .bc
  | 2, 2 => .stax .de
  | 2, 3 => .ldax .de
  | 2, 4 => .shld d16
  | 2, 5 => .lhld d16
  | 2, 6 => .sta d16
  | 2, _ => .lda d16
  | 3, y => if y % 2 = 0 then .inx (rpOfCode (fieldPair op)) else .dcx (rpOfCode (fieldPair op))
  | 4, y => .inr (opndOfCode y)
  | 5, y => .dcr (opndOfCode y)
  | 6, y => .mvi (opndOfCode y) b1
  | _, 0 => .rlc
  | _, 1 => .rrc
  | _, 2 => .ral
  | _, 3 => .rar
  | _, 4 => .daa
  | _, 5 => .cma
  | _, 6 => .stc
  | _, _ => .cmc

/-- Bytes 0x40 to 0x7F (R130): MOV, with HLT in the place of `MOV M,M`. -/
def decodeMove (op : Byte) : Form :=
  match opndOfCode (fieldMid op), opndOfCode (fieldLow op) with
  | .reg dst, .reg src => .movRR dst src
  | .reg dst, .m => .movRM dst
  | .m, .reg src => .movMR src
  | .m, .m => .hlt

/-- Bytes 0xC0 to 0xFF (R130): control transfer, stack, immediate ALU, I/O and interrupt control. -/
def decodeControl (op b1 : Byte) (d16 : Word) : Form :=
  match fieldLow op, fieldMid op with
  | 0, y => .rcc (condOfCode y)
  | 1, 0 => .pop .bc
  | 1, 1 => .ret
  | 1, 2 => .pop .de
  | 1, 3 => .undocumented .uD9
  | 1, 4 => .pop .hl
  | 1, 5 => .pchl
  | 1, 6 => .popPsw
  | 1, _ => .sphl
  | 2, y => .jcc (condOfCode y) d16
  | 3, 0 => .jmp d16
  | 3, 1 => .undocumented .uCB
  | 3, 2 => .outPort b1
  | 3, 3 => .inPort b1
  | 3, 4 => .xthl
  | 3, 5 => .xchg
  | 3, 6 => .di
  | 3, _ => .ei
  | 4, y => .ccc (condOfCode y) d16
  | 5, 0 => .push .bc
  | 5, 1 => .call d16
  | 5, 2 => .push .de
  | 5, 3 => .undocumented .uDD
  | 5, 4 => .push .hl
  | 5, 5 => .undocumented .uED
  | 5, 6 => .pushPsw
  | 5, _ => .undocumented .uFD
  | 6, y => .aluImm (aluOfCode y) b1
  | _, y => .rst (rstOfCode y)

/-- The form of an opcode byte and the two bytes after it (R121, R122); total (R134). A form without operand
bytes does not depend on `b1` and `b2`. -/
def decodeForm (op b1 b2 : Byte) : Form :=
  match fieldQuadrant op with
  | 0 => decodeMisc op b1 (joinBytes b2 b1)
  | 1 => decodeMove op
  | 2 => .alu (aluOfCode (fieldMid op)) (opndOfCode (fieldLow op))
  | _ => decodeControl op b1 (joinBytes b2 b1)

/-- The undocumented byte itself (R131). -/
def undocByte : Undoc → Byte
  | .u08 => 0x08
  | .u10 => 0x10
  | .u18 => 0x18
  | .u20 => 0x20
  | .u28 => 0x28
  | .u30 => 0x30
  | .u38 => 0x38
  | .uCB => 0xCB
  | .uD9 => 0xD9
  | .uDD => 0xDD
  | .uED => 0xED
  | .uFD => 0xFD

/-- The length in bytes of a form (R120, the format table of R122). -/
def formLength : Form → Nat
  | .mvi _ _ | .aluImm _ _ | .inPort _ | .outPort _ => 2
  | .lxi _ _ | .lda _ | .sta _ | .lhld _ | .shld _ => 3
  | .jmp _ | .jcc _ _ | .call _ | .ccc _ _ => 3
  | .nop | .movRR _ _ | .movRM _ | .movMR _ | .ldax _ | .stax _ | .xchg | .alu _ _ => 1
  | .inr _ | .dcr _ | .inx _ | .dcx _ | .dad _ | .daa | .rlc | .rrc | .ral | .rar => 1
  | .cma | .cmc | .stc | .ret | .rcc _ | .rst _ | .pchl | .push _ | .pushPsw | .pop _ => 1
  | .popPsw | .xthl | .sphl | .ei | .di | .hlt | .undocumented _ => 1

/-! ## Forms and rows -/

/-- The row of the opcode table that a form is. -/
def instrOf : Form → Instr
  | .nop => .nop
  | .lxi (.pair .bc) x => .lxiB x
  | .stax .bc => .staxB
  | .inx (.pair .bc) => .inxB
  | .inr (.reg .b) => .inrB
  | .dcr (.reg .b) => .dcrB
  | .mvi (.reg .b) x => .mviB x
  | .rlc => .rlc
  | .undocumented .u08 => .undocumented08
  | .dad (.pair .bc) => .dadB
  | .ldax .bc => .ldaxB
  | .dcx (.pair .bc) => .dcxB
  | .inr (.reg .c) => .inrC
  | .dcr (.reg .c) => .dcrC
  | .mvi (.reg .c) x => .mviC x
  | .rrc => .rrc
  | .undocumented .u10 => .undocumented10
  | .lxi (.pair .de) x => .lxiD x
  | .stax .de => .staxD
  | .inx (.pair .de) => .inxD
  | .inr (.reg .d) => .inrD
  | .dcr (.reg .d) => .dcrD
  | .mvi (.reg .d) x => .mviD x
  | .ral => .ral
  | .undocumented .u18 => .undocumented18
  | .dad (.pair .de) => .dadD
  | .ldax .de => .ldaxD
  | .dcx (.pair .de) => .dcxD
  | .inr (.reg .e) => .inrE
  | .dcr (.reg .e) => .dcrE
  | .mvi (.reg .e) x => .mviE x
  | .rar => .rar
  | .undocumented .u20 => .undocumented20
  | .lxi (.pair .hl) x => .lxiH x
  | .shld x => .shld x
  | .inx (.pair .hl) => .inxH
  | .inr (.reg .h) => .inrH
  | .dcr (.reg .h) => .dcrH
  | .mvi (.reg .h) x => .mviH x
  | .daa => .daa
  | .undocumented .u28 => .undocumented28
  | .dad (.pair .hl) => .dadH
  | .lhld x => .lhld x
  | .dcx (.pair .hl) => .dcxH
  | .inr (.reg .l) => .inrL
  | .dcr (.reg .l) => .dcrL
  | .mvi (.reg .l) x => .mviL x
  | .cma => .cma
  | .undocumented .u30 => .undocumented30
  | .lxi .sp x => .lxiSP x
  | .sta x => .sta x
  | .inx .sp => .inxSP
  | .inr .m => .inrM
  | .dcr .m => .dcrM
  | .mvi .m x => .mviM x
  | .stc => .stc
  | .undocumented .u38 => .undocumented38
  | .dad .sp => .dadSP
  | .lda x => .lda x
  | .dcx .sp => .dcxSP
  | .inr (.reg .a) => .inrA
  | .dcr (.reg .a) => .dcrA
  | .mvi (.reg .a) x => .mviA x
  | .cmc => .cmc
  | .movRR .b .b => .movBB
  | .movRR .b .c => .movBC
  | .movRR .b .d => .movBD
  | .movRR .b .e => .movBE
  | .movRR .b .h => .movBH
  | .movRR .b .l => .movBL
  | .movRM .b => .movBM
  | .movRR .b .a => .movBA
  | .movRR .c .b => .movCB
  | .movRR .c .c => .movCC
  | .movRR .c .d => .movCD
  | .movRR .c .e => .movCE
  | .movRR .c .h => .movCH
  | .movRR .c .l => .movCL
  | .movRM .c => .movCM
  | .movRR .c .a => .movCA
  | .movRR .d .b => .movDB
  | .movRR .d .c => .movDC
  | .movRR .d .d => .movDD
  | .movRR .d .e => .movDE
  | .movRR .d .h => .movDH
  | .movRR .d .l => .movDL
  | .movRM .d => .movDM
  | .movRR .d .a => .movDA
  | .movRR .e .b => .movEB
  | .movRR .e .c => .movEC
  | .movRR .e .d => .movED
  | .movRR .e .e => .movEE
  | .movRR .e .h => .movEH
  | .movRR .e .l => .movEL
  | .movRM .e => .movEM
  | .movRR .e .a => .movEA
  | .movRR .h .b => .movHB
  | .movRR .h .c => .movHC
  | .movRR .h .d => .movHD
  | .movRR .h .e => .movHE
  | .movRR .h .h => .movHH
  | .movRR .h .l => .movHL
  | .movRM .h => .movHM
  | .movRR .h .a => .movHA
  | .movRR .l .b => .movLB
  | .movRR .l .c => .movLC
  | .movRR .l .d => .movLD
  | .movRR .l .e => .movLE
  | .movRR .l .h => .movLH
  | .movRR .l .l => .movLL
  | .movRM .l => .movLM
  | .movRR .l .a => .movLA
  | .movMR .b => .movMB
  | .movMR .c => .movMC
  | .movMR .d => .movMD
  | .movMR .e => .movME
  | .movMR .h => .movMH
  | .movMR .l => .movML
  | .hlt => .hlt
  | .movMR .a => .movMA
  | .movRR .a .b => .movAB
  | .movRR .a .c => .movAC
  | .movRR .a .d => .movAD
  | .movRR .a .e => .movAE
  | .movRR .a .h => .movAH
  | .movRR .a .l => .movAL
  | .movRM .a => .movAM
  | .movRR .a .a => .movAA
  | .alu .add (.reg .b) => .addB
  | .alu .add (.reg .c) => .addC
  | .alu .add (.reg .d) => .addD
  | .alu .add (.reg .e) => .addE
  | .alu .add (.reg .h) => .addH
  | .alu .add (.reg .l) => .addL
  | .alu .add .m => .addM
  | .alu .add (.reg .a) => .addA
  | .alu .adc (.reg .b) => .adcB
  | .alu .adc (.reg .c) => .adcC
  | .alu .adc (.reg .d) => .adcD
  | .alu .adc (.reg .e) => .adcE
  | .alu .adc (.reg .h) => .adcH
  | .alu .adc (.reg .l) => .adcL
  | .alu .adc .m => .adcM
  | .alu .adc (.reg .a) => .adcA
  | .alu .sub (.reg .b) => .subB
  | .alu .sub (.reg .c) => .subC
  | .alu .sub (.reg .d) => .subD
  | .alu .sub (.reg .e) => .subE
  | .alu .sub (.reg .h) => .subH
  | .alu .sub (.reg .l) => .subL
  | .alu .sub .m => .subM
  | .alu .sub (.reg .a) => .subA
  | .alu .sbb (.reg .b) => .sbbB
  | .alu .sbb (.reg .c) => .sbbC
  | .alu .sbb (.reg .d) => .sbbD
  | .alu .sbb (.reg .e) => .sbbE
  | .alu .sbb (.reg .h) => .sbbH
  | .alu .sbb (.reg .l) => .sbbL
  | .alu .sbb .m => .sbbM
  | .alu .sbb (.reg .a) => .sbbA
  | .alu .ana (.reg .b) => .anaB
  | .alu .ana (.reg .c) => .anaC
  | .alu .ana (.reg .d) => .anaD
  | .alu .ana (.reg .e) => .anaE
  | .alu .ana (.reg .h) => .anaH
  | .alu .ana (.reg .l) => .anaL
  | .alu .ana .m => .anaM
  | .alu .ana (.reg .a) => .anaA
  | .alu .xra (.reg .b) => .xraB
  | .alu .xra (.reg .c) => .xraC
  | .alu .xra (.reg .d) => .xraD
  | .alu .xra (.reg .e) => .xraE
  | .alu .xra (.reg .h) => .xraH
  | .alu .xra (.reg .l) => .xraL
  | .alu .xra .m => .xraM
  | .alu .xra (.reg .a) => .xraA
  | .alu .ora (.reg .b) => .oraB
  | .alu .ora (.reg .c) => .oraC
  | .alu .ora (.reg .d) => .oraD
  | .alu .ora (.reg .e) => .oraE
  | .alu .ora (.reg .h) => .oraH
  | .alu .ora (.reg .l) => .oraL
  | .alu .ora .m => .oraM
  | .alu .ora (.reg .a) => .oraA
  | .alu .cmp (.reg .b) => .cmpB
  | .alu .cmp (.reg .c) => .cmpC
  | .alu .cmp (.reg .d) => .cmpD
  | .alu .cmp (.reg .e) => .cmpE
  | .alu .cmp (.reg .h) => .cmpH
  | .alu .cmp (.reg .l) => .cmpL
  | .alu .cmp .m => .cmpM
  | .alu .cmp (.reg .a) => .cmpA
  | .rcc .nz => .rnz
  | .pop .bc => .popB
  | .jcc .nz x => .jnz x
  | .jmp x => .jmp x
  | .ccc .nz x => .cnz x
  | .push .bc => .pushB
  | .aluImm .add x => .adi x
  | .rst 0 => .rst0
  | .rcc .z => .rz
  | .ret => .ret
  | .jcc .z x => .jz x
  | .undocumented .uCB => .undocumentedCB
  | .ccc .z x => .cz x
  | .call x => .call x
  | .aluImm .adc x => .aci x
  | .rst 1 => .rst1
  | .rcc .nc => .rnc
  | .pop .de => .popD
  | .jcc .nc x => .jnc x
  | .outPort x => .outPort x
  | .ccc .nc x => .cnc x
  | .push .de => .pushD
  | .aluImm .sub x => .sui x
  | .rst 2 => .rst2
  | .rcc .c => .rc
  | .undocumented .uD9 => .undocumentedD9
  | .jcc .c x => .jc x
  | .inPort x => .inPort x
  | .ccc .c x => .cc x
  | .undocumented .uDD => .undocumentedDD
  | .aluImm .sbb x => .sbi x
  | .rst 3 => .rst3
  | .rcc .po => .rpo
  | .pop .hl => .popH
  | .jcc .po x => .jpo x
  | .xthl => .xthl
  | .ccc .po x => .cpo x
  | .push .hl => .pushH
  | .aluImm .ana x => .ani x
  | .rst 4 => .rst4
  | .rcc .pe => .rpe
  | .pchl => .pchl
  | .jcc .pe x => .jpe x
  | .xchg => .xchg
  | .ccc .pe x => .cpe x
  | .undocumented .uED => .undocumentedED
  | .aluImm .xra x => .xri x
  | .rst 5 => .rst5
  | .rcc .p => .rp
  | .popPsw => .popPSW
  | .jcc .p x => .jp x
  | .di => .di
  | .ccc .p x => .cp x
  | .pushPsw => .pushPSW
  | .aluImm .ora x => .ori x
  | .rst 6 => .rst6
  | .rcc .m => .rm
  | .sphl => .sphl
  | .jcc .m x => .jm x
  | .ei => .ei
  | .ccc .m x => .cm x
  | .undocumented .uFD => .undocumentedFD
  | .aluImm .cmp x => .cpi x
  | .rst 7 => .rst7

/-- The form of a row of the opcode table. -/
def formOf : Instr → Form
  | .nop => .nop
  | .lxiB x => .lxi (.pair .bc) x
  | .staxB => .stax .bc
  | .inxB => .inx (.pair .bc)
  | .inrB => .inr (.reg .b)
  | .dcrB => .dcr (.reg .b)
  | .mviB x => .mvi (.reg .b) x
  | .rlc => .rlc
  | .undocumented08 => .undocumented .u08
  | .dadB => .dad (.pair .bc)
  | .ldaxB => .ldax .bc
  | .dcxB => .dcx (.pair .bc)
  | .inrC => .inr (.reg .c)
  | .dcrC => .dcr (.reg .c)
  | .mviC x => .mvi (.reg .c) x
  | .rrc => .rrc
  | .undocumented10 => .undocumented .u10
  | .lxiD x => .lxi (.pair .de) x
  | .staxD => .stax .de
  | .inxD => .inx (.pair .de)
  | .inrD => .inr (.reg .d)
  | .dcrD => .dcr (.reg .d)
  | .mviD x => .mvi (.reg .d) x
  | .ral => .ral
  | .undocumented18 => .undocumented .u18
  | .dadD => .dad (.pair .de)
  | .ldaxD => .ldax .de
  | .dcxD => .dcx (.pair .de)
  | .inrE => .inr (.reg .e)
  | .dcrE => .dcr (.reg .e)
  | .mviE x => .mvi (.reg .e) x
  | .rar => .rar
  | .undocumented20 => .undocumented .u20
  | .lxiH x => .lxi (.pair .hl) x
  | .shld x => .shld x
  | .inxH => .inx (.pair .hl)
  | .inrH => .inr (.reg .h)
  | .dcrH => .dcr (.reg .h)
  | .mviH x => .mvi (.reg .h) x
  | .daa => .daa
  | .undocumented28 => .undocumented .u28
  | .dadH => .dad (.pair .hl)
  | .lhld x => .lhld x
  | .dcxH => .dcx (.pair .hl)
  | .inrL => .inr (.reg .l)
  | .dcrL => .dcr (.reg .l)
  | .mviL x => .mvi (.reg .l) x
  | .cma => .cma
  | .undocumented30 => .undocumented .u30
  | .lxiSP x => .lxi .sp x
  | .sta x => .sta x
  | .inxSP => .inx .sp
  | .inrM => .inr .m
  | .dcrM => .dcr .m
  | .mviM x => .mvi .m x
  | .stc => .stc
  | .undocumented38 => .undocumented .u38
  | .dadSP => .dad .sp
  | .lda x => .lda x
  | .dcxSP => .dcx .sp
  | .inrA => .inr (.reg .a)
  | .dcrA => .dcr (.reg .a)
  | .mviA x => .mvi (.reg .a) x
  | .cmc => .cmc
  | .movBB => .movRR .b .b
  | .movBC => .movRR .b .c
  | .movBD => .movRR .b .d
  | .movBE => .movRR .b .e
  | .movBH => .movRR .b .h
  | .movBL => .movRR .b .l
  | .movBM => .movRM .b
  | .movBA => .movRR .b .a
  | .movCB => .movRR .c .b
  | .movCC => .movRR .c .c
  | .movCD => .movRR .c .d
  | .movCE => .movRR .c .e
  | .movCH => .movRR .c .h
  | .movCL => .movRR .c .l
  | .movCM => .movRM .c
  | .movCA => .movRR .c .a
  | .movDB => .movRR .d .b
  | .movDC => .movRR .d .c
  | .movDD => .movRR .d .d
  | .movDE => .movRR .d .e
  | .movDH => .movRR .d .h
  | .movDL => .movRR .d .l
  | .movDM => .movRM .d
  | .movDA => .movRR .d .a
  | .movEB => .movRR .e .b
  | .movEC => .movRR .e .c
  | .movED => .movRR .e .d
  | .movEE => .movRR .e .e
  | .movEH => .movRR .e .h
  | .movEL => .movRR .e .l
  | .movEM => .movRM .e
  | .movEA => .movRR .e .a
  | .movHB => .movRR .h .b
  | .movHC => .movRR .h .c
  | .movHD => .movRR .h .d
  | .movHE => .movRR .h .e
  | .movHH => .movRR .h .h
  | .movHL => .movRR .h .l
  | .movHM => .movRM .h
  | .movHA => .movRR .h .a
  | .movLB => .movRR .l .b
  | .movLC => .movRR .l .c
  | .movLD => .movRR .l .d
  | .movLE => .movRR .l .e
  | .movLH => .movRR .l .h
  | .movLL => .movRR .l .l
  | .movLM => .movRM .l
  | .movLA => .movRR .l .a
  | .movMB => .movMR .b
  | .movMC => .movMR .c
  | .movMD => .movMR .d
  | .movME => .movMR .e
  | .movMH => .movMR .h
  | .movML => .movMR .l
  | .hlt => .hlt
  | .movMA => .movMR .a
  | .movAB => .movRR .a .b
  | .movAC => .movRR .a .c
  | .movAD => .movRR .a .d
  | .movAE => .movRR .a .e
  | .movAH => .movRR .a .h
  | .movAL => .movRR .a .l
  | .movAM => .movRM .a
  | .movAA => .movRR .a .a
  | .addB => .alu .add (.reg .b)
  | .addC => .alu .add (.reg .c)
  | .addD => .alu .add (.reg .d)
  | .addE => .alu .add (.reg .e)
  | .addH => .alu .add (.reg .h)
  | .addL => .alu .add (.reg .l)
  | .addM => .alu .add .m
  | .addA => .alu .add (.reg .a)
  | .adcB => .alu .adc (.reg .b)
  | .adcC => .alu .adc (.reg .c)
  | .adcD => .alu .adc (.reg .d)
  | .adcE => .alu .adc (.reg .e)
  | .adcH => .alu .adc (.reg .h)
  | .adcL => .alu .adc (.reg .l)
  | .adcM => .alu .adc .m
  | .adcA => .alu .adc (.reg .a)
  | .subB => .alu .sub (.reg .b)
  | .subC => .alu .sub (.reg .c)
  | .subD => .alu .sub (.reg .d)
  | .subE => .alu .sub (.reg .e)
  | .subH => .alu .sub (.reg .h)
  | .subL => .alu .sub (.reg .l)
  | .subM => .alu .sub .m
  | .subA => .alu .sub (.reg .a)
  | .sbbB => .alu .sbb (.reg .b)
  | .sbbC => .alu .sbb (.reg .c)
  | .sbbD => .alu .sbb (.reg .d)
  | .sbbE => .alu .sbb (.reg .e)
  | .sbbH => .alu .sbb (.reg .h)
  | .sbbL => .alu .sbb (.reg .l)
  | .sbbM => .alu .sbb .m
  | .sbbA => .alu .sbb (.reg .a)
  | .anaB => .alu .ana (.reg .b)
  | .anaC => .alu .ana (.reg .c)
  | .anaD => .alu .ana (.reg .d)
  | .anaE => .alu .ana (.reg .e)
  | .anaH => .alu .ana (.reg .h)
  | .anaL => .alu .ana (.reg .l)
  | .anaM => .alu .ana .m
  | .anaA => .alu .ana (.reg .a)
  | .xraB => .alu .xra (.reg .b)
  | .xraC => .alu .xra (.reg .c)
  | .xraD => .alu .xra (.reg .d)
  | .xraE => .alu .xra (.reg .e)
  | .xraH => .alu .xra (.reg .h)
  | .xraL => .alu .xra (.reg .l)
  | .xraM => .alu .xra .m
  | .xraA => .alu .xra (.reg .a)
  | .oraB => .alu .ora (.reg .b)
  | .oraC => .alu .ora (.reg .c)
  | .oraD => .alu .ora (.reg .d)
  | .oraE => .alu .ora (.reg .e)
  | .oraH => .alu .ora (.reg .h)
  | .oraL => .alu .ora (.reg .l)
  | .oraM => .alu .ora .m
  | .oraA => .alu .ora (.reg .a)
  | .cmpB => .alu .cmp (.reg .b)
  | .cmpC => .alu .cmp (.reg .c)
  | .cmpD => .alu .cmp (.reg .d)
  | .cmpE => .alu .cmp (.reg .e)
  | .cmpH => .alu .cmp (.reg .h)
  | .cmpL => .alu .cmp (.reg .l)
  | .cmpM => .alu .cmp .m
  | .cmpA => .alu .cmp (.reg .a)
  | .rnz => .rcc .nz
  | .popB => .pop .bc
  | .jnz x => .jcc .nz x
  | .jmp x => .jmp x
  | .cnz x => .ccc .nz x
  | .pushB => .push .bc
  | .adi x => .aluImm .add x
  | .rst0 => .rst 0
  | .rz => .rcc .z
  | .ret => .ret
  | .jz x => .jcc .z x
  | .undocumentedCB => .undocumented .uCB
  | .cz x => .ccc .z x
  | .call x => .call x
  | .aci x => .aluImm .adc x
  | .rst1 => .rst 1
  | .rnc => .rcc .nc
  | .popD => .pop .de
  | .jnc x => .jcc .nc x
  | .outPort x => .outPort x
  | .cnc x => .ccc .nc x
  | .pushD => .push .de
  | .sui x => .aluImm .sub x
  | .rst2 => .rst 2
  | .rc => .rcc .c
  | .undocumentedD9 => .undocumented .uD9
  | .jc x => .jcc .c x
  | .inPort x => .inPort x
  | .cc x => .ccc .c x
  | .undocumentedDD => .undocumented .uDD
  | .sbi x => .aluImm .sbb x
  | .rst3 => .rst 3
  | .rpo => .rcc .po
  | .popH => .pop .hl
  | .jpo x => .jcc .po x
  | .xthl => .xthl
  | .cpo x => .ccc .po x
  | .pushH => .push .hl
  | .ani x => .aluImm .ana x
  | .rst4 => .rst 4
  | .rpe => .rcc .pe
  | .pchl => .pchl
  | .jpe x => .jcc .pe x
  | .xchg => .xchg
  | .cpe x => .ccc .pe x
  | .undocumentedED => .undocumented .uED
  | .xri x => .aluImm .xra x
  | .rst5 => .rst 5
  | .rp => .rcc .p
  | .popPSW => .popPsw
  | .jp x => .jcc .p x
  | .di => .di
  | .cp x => .ccc .p x
  | .pushPSW => .pushPsw
  | .ori x => .aluImm .ora x
  | .rst6 => .rst 6
  | .rm => .rcc .m
  | .sphl => .sphl
  | .jm x => .jcc .m x
  | .ei => .ei
  | .cm x => .ccc .m x
  | .undocumentedFD => .undocumented .uFD
  | .cpi x => .aluImm .cmp x
  | .rst7 => .rst 7

/-! ## The decoder -/

/-- The instruction an opcode byte and the two bytes after it spell. -/
def decodeInstr (op b1 b2 : Byte) : Instr := instrOf (decodeForm op b1 b2)

/-- The length of the instruction that begins with an opcode byte: fixed by the opcode alone (R120). -/
def lengthOf (op : Byte) : Nat := formLength (decodeForm op 0 0)

/-- Why a list of bytes spells no instruction. Every opcode byte spells one (R134), so only bytes that are
missing can be the reason. -/
inductive DecodeError where
  | noOpcode
  | missingOperand (op : Byte)
  deriving DecidableEq, Repr

/-- The first instruction of a list of bytes and the bytes after it. -/
def decode : List Byte → Except DecodeError (Instr × List Byte)
  | [] => .error .noOpcode
  | op :: rest =>
    match lengthOf op, rest with
    | 1, rest => .ok (decodeInstr op 0 0, rest)
    | 2, b1 :: rest => .ok (decodeInstr op b1 0, rest)
    | 3, b1 :: b2 :: rest => .ok (decodeInstr op b1 b2, rest)
    | _, _ => .error (.missingOperand op)

/-- The three bytes of a word of the opcode table: the first byte in bits 7:0, each later byte above it, and
every bit above `nbits` zero. -/
def tableBytes (nbits w : Nat) : List Byte :=
  [BitVec.ofNat 8 (w % 2 ^ nbits), BitVec.ofNat 8 (w % 2 ^ nbits / 256),
    BitVec.ofNat 8 (w % 2 ^ nbits / 65536)]

/-- The instruction the decoder reads from a word of the opcode table. -/
def decodeTableWord (nbits w : Nat) : Option Instr :=
  match decode (tableBytes nbits w) with
  | .ok (i, _) => some i
  | .error _ => none

/-! ## The encoder -/

/-- The bytes of an instruction: its row's `match` byte, then its operand bytes, low byte first (R122, R123). -/
def encode : Instr → List Byte
  | .nop => [0x00]
  | .lxiB x => [0x01, lo8 x, hi8 x]
  | .staxB => [0x02]
  | .inxB => [0x03]
  | .inrB => [0x04]
  | .dcrB => [0x05]
  | .mviB x => [0x06, x]
  | .rlc => [0x07]
  | .undocumented08 => [0x08]
  | .dadB => [0x09]
  | .ldaxB => [0x0A]
  | .dcxB => [0x0B]
  | .inrC => [0x0C]
  | .dcrC => [0x0D]
  | .mviC x => [0x0E, x]
  | .rrc => [0x0F]
  | .undocumented10 => [0x10]
  | .lxiD x => [0x11, lo8 x, hi8 x]
  | .staxD => [0x12]
  | .inxD => [0x13]
  | .inrD => [0x14]
  | .dcrD => [0x15]
  | .mviD x => [0x16, x]
  | .ral => [0x17]
  | .undocumented18 => [0x18]
  | .dadD => [0x19]
  | .ldaxD => [0x1A]
  | .dcxD => [0x1B]
  | .inrE => [0x1C]
  | .dcrE => [0x1D]
  | .mviE x => [0x1E, x]
  | .rar => [0x1F]
  | .undocumented20 => [0x20]
  | .lxiH x => [0x21, lo8 x, hi8 x]
  | .shld x => [0x22, lo8 x, hi8 x]
  | .inxH => [0x23]
  | .inrH => [0x24]
  | .dcrH => [0x25]
  | .mviH x => [0x26, x]
  | .daa => [0x27]
  | .undocumented28 => [0x28]
  | .dadH => [0x29]
  | .lhld x => [0x2A, lo8 x, hi8 x]
  | .dcxH => [0x2B]
  | .inrL => [0x2C]
  | .dcrL => [0x2D]
  | .mviL x => [0x2E, x]
  | .cma => [0x2F]
  | .undocumented30 => [0x30]
  | .lxiSP x => [0x31, lo8 x, hi8 x]
  | .sta x => [0x32, lo8 x, hi8 x]
  | .inxSP => [0x33]
  | .inrM => [0x34]
  | .dcrM => [0x35]
  | .mviM x => [0x36, x]
  | .stc => [0x37]
  | .undocumented38 => [0x38]
  | .dadSP => [0x39]
  | .lda x => [0x3A, lo8 x, hi8 x]
  | .dcxSP => [0x3B]
  | .inrA => [0x3C]
  | .dcrA => [0x3D]
  | .mviA x => [0x3E, x]
  | .cmc => [0x3F]
  | .movBB => [0x40]
  | .movBC => [0x41]
  | .movBD => [0x42]
  | .movBE => [0x43]
  | .movBH => [0x44]
  | .movBL => [0x45]
  | .movBM => [0x46]
  | .movBA => [0x47]
  | .movCB => [0x48]
  | .movCC => [0x49]
  | .movCD => [0x4A]
  | .movCE => [0x4B]
  | .movCH => [0x4C]
  | .movCL => [0x4D]
  | .movCM => [0x4E]
  | .movCA => [0x4F]
  | .movDB => [0x50]
  | .movDC => [0x51]
  | .movDD => [0x52]
  | .movDE => [0x53]
  | .movDH => [0x54]
  | .movDL => [0x55]
  | .movDM => [0x56]
  | .movDA => [0x57]
  | .movEB => [0x58]
  | .movEC => [0x59]
  | .movED => [0x5A]
  | .movEE => [0x5B]
  | .movEH => [0x5C]
  | .movEL => [0x5D]
  | .movEM => [0x5E]
  | .movEA => [0x5F]
  | .movHB => [0x60]
  | .movHC => [0x61]
  | .movHD => [0x62]
  | .movHE => [0x63]
  | .movHH => [0x64]
  | .movHL => [0x65]
  | .movHM => [0x66]
  | .movHA => [0x67]
  | .movLB => [0x68]
  | .movLC => [0x69]
  | .movLD => [0x6A]
  | .movLE => [0x6B]
  | .movLH => [0x6C]
  | .movLL => [0x6D]
  | .movLM => [0x6E]
  | .movLA => [0x6F]
  | .movMB => [0x70]
  | .movMC => [0x71]
  | .movMD => [0x72]
  | .movME => [0x73]
  | .movMH => [0x74]
  | .movML => [0x75]
  | .hlt => [0x76]
  | .movMA => [0x77]
  | .movAB => [0x78]
  | .movAC => [0x79]
  | .movAD => [0x7A]
  | .movAE => [0x7B]
  | .movAH => [0x7C]
  | .movAL => [0x7D]
  | .movAM => [0x7E]
  | .movAA => [0x7F]
  | .addB => [0x80]
  | .addC => [0x81]
  | .addD => [0x82]
  | .addE => [0x83]
  | .addH => [0x84]
  | .addL => [0x85]
  | .addM => [0x86]
  | .addA => [0x87]
  | .adcB => [0x88]
  | .adcC => [0x89]
  | .adcD => [0x8A]
  | .adcE => [0x8B]
  | .adcH => [0x8C]
  | .adcL => [0x8D]
  | .adcM => [0x8E]
  | .adcA => [0x8F]
  | .subB => [0x90]
  | .subC => [0x91]
  | .subD => [0x92]
  | .subE => [0x93]
  | .subH => [0x94]
  | .subL => [0x95]
  | .subM => [0x96]
  | .subA => [0x97]
  | .sbbB => [0x98]
  | .sbbC => [0x99]
  | .sbbD => [0x9A]
  | .sbbE => [0x9B]
  | .sbbH => [0x9C]
  | .sbbL => [0x9D]
  | .sbbM => [0x9E]
  | .sbbA => [0x9F]
  | .anaB => [0xA0]
  | .anaC => [0xA1]
  | .anaD => [0xA2]
  | .anaE => [0xA3]
  | .anaH => [0xA4]
  | .anaL => [0xA5]
  | .anaM => [0xA6]
  | .anaA => [0xA7]
  | .xraB => [0xA8]
  | .xraC => [0xA9]
  | .xraD => [0xAA]
  | .xraE => [0xAB]
  | .xraH => [0xAC]
  | .xraL => [0xAD]
  | .xraM => [0xAE]
  | .xraA => [0xAF]
  | .oraB => [0xB0]
  | .oraC => [0xB1]
  | .oraD => [0xB2]
  | .oraE => [0xB3]
  | .oraH => [0xB4]
  | .oraL => [0xB5]
  | .oraM => [0xB6]
  | .oraA => [0xB7]
  | .cmpB => [0xB8]
  | .cmpC => [0xB9]
  | .cmpD => [0xBA]
  | .cmpE => [0xBB]
  | .cmpH => [0xBC]
  | .cmpL => [0xBD]
  | .cmpM => [0xBE]
  | .cmpA => [0xBF]
  | .rnz => [0xC0]
  | .popB => [0xC1]
  | .jnz x => [0xC2, lo8 x, hi8 x]
  | .jmp x => [0xC3, lo8 x, hi8 x]
  | .cnz x => [0xC4, lo8 x, hi8 x]
  | .pushB => [0xC5]
  | .adi x => [0xC6, x]
  | .rst0 => [0xC7]
  | .rz => [0xC8]
  | .ret => [0xC9]
  | .jz x => [0xCA, lo8 x, hi8 x]
  | .undocumentedCB => [0xCB]
  | .cz x => [0xCC, lo8 x, hi8 x]
  | .call x => [0xCD, lo8 x, hi8 x]
  | .aci x => [0xCE, x]
  | .rst1 => [0xCF]
  | .rnc => [0xD0]
  | .popD => [0xD1]
  | .jnc x => [0xD2, lo8 x, hi8 x]
  | .outPort x => [0xD3, x]
  | .cnc x => [0xD4, lo8 x, hi8 x]
  | .pushD => [0xD5]
  | .sui x => [0xD6, x]
  | .rst2 => [0xD7]
  | .rc => [0xD8]
  | .undocumentedD9 => [0xD9]
  | .jc x => [0xDA, lo8 x, hi8 x]
  | .inPort x => [0xDB, x]
  | .cc x => [0xDC, lo8 x, hi8 x]
  | .undocumentedDD => [0xDD]
  | .sbi x => [0xDE, x]
  | .rst3 => [0xDF]
  | .rpo => [0xE0]
  | .popH => [0xE1]
  | .jpo x => [0xE2, lo8 x, hi8 x]
  | .xthl => [0xE3]
  | .cpo x => [0xE4, lo8 x, hi8 x]
  | .pushH => [0xE5]
  | .ani x => [0xE6, x]
  | .rst4 => [0xE7]
  | .rpe => [0xE8]
  | .pchl => [0xE9]
  | .jpe x => [0xEA, lo8 x, hi8 x]
  | .xchg => [0xEB]
  | .cpe x => [0xEC, lo8 x, hi8 x]
  | .undocumentedED => [0xED]
  | .xri x => [0xEE, x]
  | .rst5 => [0xEF]
  | .rp => [0xF0]
  | .popPSW => [0xF1]
  | .jp x => [0xF2, lo8 x, hi8 x]
  | .di => [0xF3]
  | .cp x => [0xF4, lo8 x, hi8 x]
  | .pushPSW => [0xF5]
  | .ori x => [0xF6, x]
  | .rst6 => [0xF7]
  | .rm => [0xF8]
  | .sphl => [0xF9]
  | .jm x => [0xFA, lo8 x, hi8 x]
  | .ei => [0xFB]
  | .cm x => [0xFC, lo8 x, hi8 x]
  | .undocumentedFD => [0xFD]
  | .cpi x => [0xFE, x]
  | .rst7 => [0xFF]

/-- The opcode byte of an instruction. -/
def opcodeOf (i : Instr) : Byte := (encode i).headD 0

end Sys2Proof
end

