-- ==== Sys2Proof/Config.lean ====
section
/-! DEFINITION. The configuration record of 00_scope.md R10: its type, and the one value the spec leaves open. It is
an argument of the model (`execWith`, `coreStep`, `stepWith`, `runHalfFrame`); the defaults, which `exec` and `step`
run with, are `Sys2Proof.Machine.config` (Machine/Settings.lean). -/

namespace Sys2Proof

/-- `AC_MODE` (R10, R55): which auxiliary-carry rule every AC-writing instruction follows. -/
inductive AcMode where
  | literal
  | nibble
  deriving DecidableEq, Repr

/-- `PSW_LAYOUT` (R10, R40): the bit position of each flag in the flags byte, and the byte that gives the
bits no flag occupies. -/
structure PswLayout where
  z : Fin 8
  s : Fin 8
  p : Fin 8
  cy : Fin 8
  ac : Fin 8
  fixed : Byte
  deriving DecidableEq, Repr

/-- The fields of R10's `Config`. It is fixed for a machine and is not state (R48). -/
structure Config where
  acMode : AcMode
  port0Value : Byte
  halfFrameCycles : Nat
  cycles : Byte → Nat
  takenExtra : Nat
  implemented : Byte → Bool
  pswLayout : PswLayout

/-- `PORT0_VALUE`, the OPEN field of R10: "port 0 returns a fixed constant" (R97) whose value the source does
not give (D12, U4). It has no body, so no proof can use a value of it (assumption 5). -/
opaque Config.openPort0Value : Byte

end Sys2Proof
end

