-- ==== Sys2Proof/Machine/State.lean ====
section
/-! DEFINITION. The state record of 10_state.md R30, as plain data, its reset value (70_reset_and_hazards.md
R450), and the reasons a step can stop. -/

namespace Sys2Proof.Machine

/-- The seven 8-bit general registers (R31). -/
structure Regs where
  a : Byte
  b : Byte
  c : Byte
  d : Byte
  e : Byte
  h : Byte
  l : Byte
  deriving DecidableEq, Repr

/-- The five flags: zero, sign, parity, carry, auxiliary carry (R38). -/
structure Flags where
  z : Bool
  s : Bool
  p : Bool
  cy : Bool
  ac : Bool
  deriving DecidableEq, Repr

/-- The port latches: the shift register (R42, R43), the input bytes (R44) and the last bytes written to the
sound ports (R45). -/
structure Latches where
  shift0 : Byte
  shift1 : Byte
  shiftOffset : BitVec 3
  in1 : Byte
  in2 : Byte
  out3 : Byte
  out5 : Byte
  deriving DecidableEq, Repr

/-- The run status (R46): what ended the run, or `running`. -/
inductive Status where
  | running
  | halted
  | unimplemented (op : Byte)
  | unimplementedPort (port : Byte)
  deriving DecidableEq, Repr

/-- Which half-frame is running (R47). -/
inductive Phase where
  | top
  | bottom
  deriving DecidableEq, Repr

/-- Memory (R80) as the list of the bytes that differ from what an unlisted address reads as, by rising
address (assumption 6). -/
abbrev Memory := List Host.Cell

/-- The state record (R30), and nothing else: what R48 lists (the configuration, the cycle table, the events of a
step) is not state. -/
structure State where
  regs : Regs
  sp : Word
  pc : Word
  flags : Flags
  inte : Bool
  latches : Latches
  mem : Memory
  status : Status
  cycleCount : Nat
  phase : Phase
  deriving DecidableEq, Repr

/-- The state after reset with an empty ROM image: every row of R450's table, memory all 0 (R451). -/
def State.reset : State where
  regs := { a := 0, b := 0, c := 0, d := 0, e := 0, h := 0, l := 0 }
  sp := 0
  pc := 0
  flags := { z := false, s := false, p := false, cy := false, ac := false }
  inte := false
  latches := { shift0 := 0, shift1 := 0, shiftOffset := 0, in1 := 0, in2 := 0, out3 := 0, out5 := 0 }
  mem := []
  status := .running
  cycleCount := 0
  phase := .top

/-- Why the machine stops with a fault. -/
inductive Fault where
  /-- Raised by `step` when the status is terminal: "Once `status ≠ Running`, no step runs" (R405, R46, U16).
  Safe: the core does not go on either (assumption 3). -/
  | runEnded (status : Status)
  deriving DecidableEq, Repr

/-- Why the model refuses. -/
inductive Refusal where
  /-- Raised by an arm of `exec` whose instruction has no meaning yet. Safe. No arm raises it. -/
  | notModelled (mnemonic : String)
  /-- Raised by `resetWith` for a ROM image of more than 65,536 bytes: "a model may refuse it" (R451, U12).
  Safe. -/
  | romTooLarge
  /-- Raised by a host access outside the gaps between half-frames (R421, U14). Safe. -/
  | hostDuringHalfFrame
  deriving DecidableEq, Repr

/-- The outcome of a meaning or of a step. -/
abbrev Result := Host.Outcome State Fault Refusal

end Sys2Proof.Machine
end

