-- ==== Sys2Proof/Machine/Flags.lean ====
section
/-! DEFINITION. The flags algebra (10_state.md R50 to R57), the shared arithmetic and logic operations
(41_arithmetic.md R201, R202, R215, R217, R221, R222, 42_logical.md R250, R263 to R266), and the flags byte
(R40). `v` is the widened result as a natural number, `v % 256` is `v & 0xFF` and `v % 16` is `v & 0x0F`. -/

namespace Sys2Proof.Machine

/-- `bool(c)` (R13). -/
def bit (c : Bool) : Nat := if c then 1 else 0

/-- `Zero(v)` (R50). -/
def flagZero (v : Nat) : Bool := v % 256 == 0

/-- `Sign(v)` (R51). -/
def flagSign (v : Nat) : Bool := v.testBit 7

/-- The number of 1 bits among the low eight bits of `v` (R13). -/
def popcount8 (v : Nat) : Nat :=
  bit (v.testBit 0) + bit (v.testBit 1) + bit (v.testBit 2) + bit (v.testBit 3) +
    bit (v.testBit 4) + bit (v.testBit 5) + bit (v.testBit 6) + bit (v.testBit 7)

/-- `Parity(v)` (R52): an even number of 1 bits. -/
def flagParity (v : Nat) : Bool := popcount8 v % 2 == 0

/-- `CarryAdd(v)` (R53). -/
def carryAdd (v : Nat) : Bool := decide (v > 0xFF)

/-- `CarrySub(a, b, c)` (R54). -/
def carrySub (a b : Byte) (c : Bool) : Bool := decide (b.toNat + bit c > a.toNat)

/-- `AuxCarry(v)` of the literal mode (R55). -/
def auxCarryLiteral (v : Nat) : Bool := decide (v % 16 > 0x0F)

/-- The auxiliary carry by `AC_MODE` (R55), given the instruction's `AcNibble` clause. -/
def auxCarry (cfg : Config) (v : Nat) (acNibble : Bool) : Bool :=
  match cfg.acMode with
  | .literal => auxCarryLiteral v
  | .nibble => acNibble

/-- `SetZSP(v)` (R56). -/
def setZSP (v : Nat) (f : Flags) : Flags :=
  { f with z := flagZero v, s := flagSign v, p := flagParity v }

/-- `v & 0xFF`, the stored result. -/
def stored (v : Nat) : Byte := BitVec.ofNat 8 v

/-- `Add8(a, b, c)` (R201): the result and all five flags. -/
def add8 (cfg : Config) (a b : Byte) (c : Bool) (f : Flags) : Byte × Flags :=
  let v := a.toNat + b.toNat + bit c
  (stored v,
    { setZSP v f with
      cy := carryAdd v
      ac := auxCarry cfg v (decide (a.toNat % 16 + b.toNat % 16 + bit c > 0xF)) })

/-- `Sub8(a, b, c)` (R202): the result and all five flags; `v` is the 16-bit residue of `a - b - c`. -/
def sub8 (cfg : Config) (a b : Byte) (c : Bool) (f : Flags) : Byte × Flags :=
  let v := (65536 + a.toNat - b.toNat - bit c) % 65536
  (stored v,
    { setZSP v f with
      cy := carrySub a b c
      ac := auxCarry cfg v (decide (a.toNat % 16 + (~~~b).toNat % 16 + (1 - bit c) > 0xF)) })

/-- The flags of `Logic8` (R250) for the byte `v`, with the mode's `AcNibble` clause. -/
def logicFlags (cfg : Config) (v : Byte) (acNibble : Bool) (f : Flags) : Flags :=
  { setZSP v.toNat f with cy := false, ac := auxCarry cfg v.toNat acNibble }

/-- `Logic8(and, a, b)` (R250); under `nibble`, AC is bit 3 of `a | b`. -/
def and8 (cfg : Config) (a b : Byte) (f : Flags) : Byte × Flags :=
  (a &&& b, logicFlags cfg (a &&& b) ((a ||| b).getLsbD 3) f)

/-- `Logic8(xor, a, b)` (R250). -/
def xor8 (cfg : Config) (a b : Byte) (f : Flags) : Byte × Flags :=
  (a ^^^ b, logicFlags cfg (a ^^^ b) false f)

/-- `Logic8(or, a, b)` (R250). -/
def or8 (cfg : Config) (a b : Byte) (f : Flags) : Byte × Flags :=
  (a ||| b, logicFlags cfg (a ||| b) false f)

/-- INR's result and flags (R215); CY is kept. -/
def inc8 (cfg : Config) (old : Byte) (f : Flags) : Byte × Flags :=
  let v := old.toNat + 1
  (stored v, { setZSP v f with ac := auxCarry cfg v (decide (old.toNat % 16 = 0xF)) })

/-- DCR's result and flags (R217); CY is kept. -/
def dec8 (cfg : Config) (old : Byte) (f : Flags) : Byte × Flags :=
  let v := (65536 + old.toNat - 1) % 65536
  (stored v, { setZSP v f with ac := auxCarry cfg v (decide (old.toNat % 16 ≠ 0)) })

/-- DAD's 16-bit sum and its carry (R221). -/
def add16 (x y : Word) : Word × Bool :=
  (x + y, decide (x.toNat + y.toNat > 0xFFFF))

/-- DAA's low correction test (R222). -/
def daaLow (a : Byte) (f : Flags) : Bool := f.ac || decide (a.toNat % 16 > 9)

/-- DAA's high correction test (R222). -/
def daaHigh (a : Byte) (f : Flags) : Bool :=
  f.cy || decide (a.toNat / 16 > 9) || (decide (a.toNat / 16 ≥ 9) && decide (a.toNat % 16 > 9))

/-- DAA's result and flags (R222); a set CY is never cleared. -/
def daa8 (cfg : Config) (a : Byte) (f : Flags) : Byte × Flags :=
  let corr := (if daaLow a f then 0x06 else 0) + (if daaHigh a f then 0x60 else 0)
  let v := a.toNat + corr
  (stored v,
    { setZSP v f with
      cy := f.cy || daaHigh a f
      ac := auxCarry cfg v (decide (a.toNat % 16 + corr % 16 > 0xF)) })

/-- RLC: the result and CY (R263). -/
def rlc8 (a : Byte) : Byte × Bool := (a.rotateLeft 1, a.getLsbD 7)

/-- RRC: the result and CY (R264). -/
def rrc8 (a : Byte) : Byte × Bool := (a.rotateRight 1, a.getLsbD 0)

/-- RAL: the result and CY (R265). -/
def ral8 (a : Byte) (cy : Bool) : Byte × Bool :=
  (a <<< 1 ||| BitVec.ofNat 8 (bit cy), a.getLsbD 7)

/-- RAR: the result and CY (R266). -/
def rar8 (a : Byte) (cy : Bool) : Byte × Bool :=
  (a >>> 1 ||| BitVec.ofNat 8 (bit cy) <<< 7, a.getLsbD 0)

/-- A flag at its place in the flags byte. -/
def flagAt (f : Bool) (pos : Fin 8) : Byte := if f then 1#8 <<< pos.val else 0#8

/-- `FlagsByte()` (R40), for any layout. -/
def flagsByte (lay : PswLayout) (f : Flags) : Byte :=
  lay.fixed ||| flagAt f.s lay.s ||| flagAt f.z lay.z ||| flagAt f.ac lay.ac ||| flagAt f.p lay.p |||
    flagAt f.cy lay.cy

/-- `SetFlagsByte(v)` (R40), for any layout: the bits no flag occupies are ignored. -/
def flagsOfByte (lay : PswLayout) (v : Byte) : Flags where
  z := v.getLsbD lay.z
  s := v.getLsbD lay.s
  p := v.getLsbD lay.p
  cy := v.getLsbD lay.cy
  ac := v.getLsbD lay.ac

end Sys2Proof.Machine
end

