-- ==== Sys2Proof/Machine/Memory.lean ====
section
/-! DEFINITION. Memory as a canonical list of cells, and the memory primitives of 20_memory.md R81 to R85. -/

namespace Sys2Proof.Machine

/-- What an address that is not listed reads as: 0, the contents R451 gives every byte above the ROM image. -/
def Memory.unlisted : Byte := 0

/-- The byte at an address. -/
def Memory.read : Memory → Nat → Byte
  | [], _ => Memory.unlisted
  | cell :: rest, addr => if cell.1 = addr then cell.2 else Memory.read rest addr

/-- Listing a byte at an address, in order. -/
def Memory.insert : Memory → Nat → Byte → Memory
  | [], addr, v => [(addr, v)]
  | cell :: rest, addr, v =>
    if addr < cell.1 then (addr, v) :: cell :: rest
    else if addr = cell.1 then (addr, v) :: rest
    else cell :: Memory.insert rest addr v

/-- Unlisting an address. -/
def Memory.erase : Memory → Nat → Memory
  | [], _ => []
  | cell :: rest, addr => if cell.1 = addr then Memory.erase rest addr else cell :: Memory.erase rest addr

/-- Storing a byte. The canonical form is kept: a byte equal to what an unlisted address reads as is unlisted. -/
def Memory.write (m : Memory) (addr : Nat) (v : Byte) : Memory :=
  if v = Memory.unlisted then Memory.erase m addr else Memory.insert m addr v

/-- The canonical form from a lower bound on: addresses at least `low`, strictly rising, below 65,536 (R80),
and no byte equal to what an unlisted address reads as. -/
def Memory.wfFrom : Nat → Memory → Bool
  | _, [] => true
  | low, cell :: rest =>
    decide (low ≤ cell.1) && decide (cell.1 < 65536) && decide (cell.2 ≠ Memory.unlisted) &&
      Memory.wfFrom (cell.1 + 1) rest

/-- The canonical form of memory. -/
def Memory.wf (m : Memory) : Bool := Memory.wfFrom 0 m

/-- `MemRead(addr, 1)` (R81). A `Word` is already reduced modulo 65536 (R83). -/
def readByte (addr : Word) (s : State) : Byte := Memory.read s.mem addr.toNat

/-- `MemWrite(addr, 1, v)` (R82). -/
def writeByte (addr : Word) (v : Byte) (s : State) : State :=
  { s with mem := Memory.write s.mem addr.toNat v }

/-- `MemRead(addr, 2)`, little-endian, the second address wrapping (R84). -/
def readWord (addr : Word) (s : State) : Word :=
  joinBytes (readByte (addr + 1) s) (readByte addr s)

/-- `MemWrite(addr, 2, w)` (R85). -/
def writeWord (addr w : Word) (s : State) : State :=
  writeByte (addr + 1) (hi8 w) (writeByte addr (lo8 w) s)

/-- Storing consecutive bytes from an address on, wrapping (R83); used for placing a ROM image (R451) and an
instruction's bytes. -/
def writeBytes : Word → List Byte → State → State
  | _, [], s => s
  | addr, v :: rest, s => writeBytes (addr + 1) rest (writeByte addr v s)

end Sys2Proof.Machine
end

