-- ==== Sys2Proof/Machine/Operands.lean ====
section
/-! DEFINITION. Every operand form: registers and pairs (10_state.md R31 to R34), the register field with M
(30_encoding.md R124), the pair field with SP (R125), and the condition field (43_branch.md R300). -/

namespace Sys2Proof.Machine

/-- `x[r]` (R14, R31). -/
def getReg (r : Reg) (s : State) : Byte :=
  match r with
  | .b => s.regs.b
  | .c => s.regs.c
  | .d => s.regs.d
  | .e => s.regs.e
  | .h => s.regs.h
  | .l => s.regs.l
  | .a => s.regs.a

/-- A register file with `x[r] <- v`. -/
def regsWith (r : Reg) (v : Byte) (x : Regs) : Regs :=
  match r with
  | .b => { x with b := v }
  | .c => { x with c := v }
  | .d => { x with d := v }
  | .e => { x with e := v }
  | .h => { x with h := v }
  | .l => { x with l := v }
  | .a => { x with a := v }

/-- `x[r] <- v` (R14, R31). -/
def setReg (r : Reg) (v : Byte) (s : State) : State := { s with regs := regsWith r v s.regs }

/-- The high register of a pair (R33). -/
def pairHigh : Pair → Reg
  | .bc => .b
  | .de => .d
  | .hl => .h

/-- The low register of a pair (R33). -/
def pairLow : Pair → Reg
  | .bc => .c
  | .de => .e
  | .hl => .l

/-- `pair(p)` (R33). -/
def getPair (p : Pair) (s : State) : Word := joinBytes (getReg (pairHigh p) s) (getReg (pairLow p) s)

/-- `pair(p) <- w` (R34). -/
def setPair (p : Pair) (w : Word) (s : State) : State :=
  setReg (pairLow p) (lo8 w) (setReg (pairHigh p) (hi8 w) s)

/-- The 16-bit value a pair field names (R125). -/
def readRp (rp : Rp) (s : State) : Word :=
  match rp with
  | .pair p => getPair p s
  | .sp => s.sp

/-- Writing what a pair field names (R125, R155). -/
def writeRp (rp : Rp) (w : Word) (s : State) : State :=
  match rp with
  | .pair p => setPair p w s
  | .sp => { s with sp := w }

/-- The pair LDAX and STAX address memory with (R160, R161). -/
def idxPair : IdxPair → Pair
  | .bc => .bc
  | .de => .de

/-- Reading a register field (R124); this is `src8` of 41_arithmetic.md. -/
def readOpnd (o : Opnd) (s : State) : Byte :=
  match o with
  | .reg r => getReg r s
  | .m => readByte (getPair .hl s) s

/-- Writing a register field (R124). -/
def writeOpnd (o : Opnd) (v : Byte) (s : State) : State :=
  match o with
  | .reg r => setReg r v s
  | .m => writeByte (getPair .hl s) v s

/-- `Cond(ccc)` (R300, R127). -/
def condHolds (cond : Cond) (f : Flags) : Bool :=
  match cond with
  | .nz => !f.z
  | .z => f.z
  | .nc => !f.cy
  | .c => f.cy
  | .po => !f.p
  | .pe => f.p
  | .p => !f.s
  | .m => f.s

end Sys2Proof.Machine
end

