-- ==== Sys2Proof/Machine/Ops.lean ====
section
/-! DEFINITION. The shared operations the meanings are made of: the program counter (00_scope.md R17), the
stack helpers (20_memory.md R94, R95), the interrupt entry (60_exceptions.md R410), and one operation for each
shape of instruction. -/

namespace Sys2Proof.Machine

/-- `PC <- next`, the automatic advance by the instruction's length (R17, R37). -/
def advance (len : Word) (s : State) : State := { s with pc := s.pc + len }

/-- `pc <- target`, which suppresses the advance (R14, R37). -/
def jump (target : Word) (s : State) : State := { s with pc := target }

/-- Writing all five flags. -/
def setFlags (f : Flags) (s : State) : State := { s with flags := f }

/-- Writing the run status (R46). -/
def setStatus (st : Status) (s : State) : State := { s with status := st }

/-- Writing INTE (R41). -/
def setInte (on : Bool) (s : State) : State := { s with inte := on }

/-- `Push(w)` (R94): the high byte to `SP - 1`, then the low byte to `SP - 2`. -/
def push (w : Word) (s : State) : State :=
  { writeByte (s.sp - 2) (lo8 w) (writeByte (s.sp - 1) (hi8 w) s) with sp := s.sp - 2 }

/-- The word `Pop()` returns (R95): low byte at SP, high byte at `SP + 1`. -/
def topWord (s : State) : Word := readWord s.sp s

/-- What `Pop()` does to the state (R95). -/
def dropWord (s : State) : State := { s with sp := s.sp + 2 }

/-- The RST vector `8 * n` (R129, R328). -/
def restartVector (n : Nat) : Word := BitVec.ofNat 16 (8 * n)

/-- INTERRUPT ENTRY (R410), the machine's only exception entry: `Push(PC); PC <- 8*n; INTE <- 0`. Its return is
RET, `returnIf true` below (R412). -/
def takeInterrupt (n : Nat) (s : State) : State :=
  setInte false (jump (restartVector n) (push s.pc s))

/-- An 8-bit load into a register. -/
def loadReg (len : Word) (r : Reg) (v : Byte) (s : State) : Result :=
  .next (advance len (setReg r v s))

/-- A 16-bit load into a pair or SP. -/
def loadRp (len : Word) (rp : Rp) (w : Word) (s : State) : Result :=
  .next (advance len (writeRp rp w s))

/-- An 8-bit store. -/
def storeByte (len addr : Word) (v : Byte) (s : State) : Result :=
  .next (advance len (writeByte addr v s))

/-- A 16-bit store. -/
def storeWord (len addr w : Word) (s : State) : Result :=
  .next (advance len (writeWord addr w s))

/-- XCHG (R162). -/
def exchangeDeHl (s : State) : Result :=
  .next (advance 1 (setPair .hl (getPair .de s) (setPair .de (getPair .hl s) s)))

/-- The result and flags of an ALU operation of A with `v` (R128, R201, R202, R250). -/
def aluValue (cfg : Config) (k : AluOp) (v : Byte) (s : State) : Byte × Flags :=
  match k with
  | .add => add8 cfg s.regs.a v false s.flags
  | .adc => add8 cfg s.regs.a v s.flags.cy s.flags
  | .sub => sub8 cfg s.regs.a v false s.flags
  | .sbb => sub8 cfg s.regs.a v s.flags.cy s.flags
  | .ana => and8 cfg s.regs.a v s.flags
  | .xra => xor8 cfg s.regs.a v s.flags
  | .ora => or8 cfg s.regs.a v s.flags
  | .cmp => (s.regs.a, (sub8 cfg s.regs.a v false s.flags).2)

/-- An ALU operation of A with `v`; CMP keeps A (R260). -/
def accWith (cfg : Config) (k : AluOp) (len : Word) (v : Byte) (s : State) : Result :=
  .next (advance len (setFlags (aluValue cfg k v s).2 (setReg .a (aluValue cfg k v s).1 s)))

/-- INR r and INR M (R215, R216). -/
def incrOpnd (cfg : Config) (o : Opnd) (s : State) : Result :=
  let r := inc8 cfg (readOpnd o s) s.flags
  .next (advance 1 (setFlags r.2 (writeOpnd o r.1 s)))

/-- DCR r and DCR M (R217, R218). -/
def decrOpnd (cfg : Config) (o : Opnd) (s : State) : Result :=
  let r := dec8 cfg (readOpnd o s) s.flags
  .next (advance 1 (setFlags r.2 (writeOpnd o r.1 s)))

/-- DAD (R221): HL plus `w`, writing CY only. -/
def addToHl (w : Word) (s : State) : Result :=
  let r := add16 (getPair .hl s) w
  .next (advance 1 (setFlags { s.flags with cy := r.2 } (setPair .hl r.1 s)))

/-- Writing A and all five flags (DAA, R222). -/
def setAccFlags (r : Byte × Flags) (s : State) : Result :=
  .next (advance 1 (setFlags r.2 (setReg .a r.1 s)))

/-- Writing A and CY only (the rotates, R263 to R266). -/
def setAccCarry (r : Byte × Bool) (s : State) : Result :=
  .next (advance 1 (setFlags { s.flags with cy := r.2 } (setReg .a r.1 s)))

/-- Writing CY only (CMC, STC, R268, R269). -/
def setCarry (cy : Bool) (s : State) : Result :=
  .next (advance 1 (setFlags { s.flags with cy := cy } s))

/-- JMP, Jcc and PCHL (R301 to R309, R329): to the target if `taken`, else past the instruction. -/
def jumpIf (len : Word) (taken : Bool) (target : Word) (s : State) : Result :=
  if taken then .next (jump target s) else .next (advance len s)

/-- CALL, Ccc and RST (R310 to R318, R328): push the address of the next instruction and go to the target if
`taken`, else only past the instruction. -/
def callIf (len : Word) (taken : Bool) (target : Word) (s : State) : Result :=
  if taken then .next (jump target (push (s.pc + len) s)) else .next (advance len s)

/-- RET and Rcc (R319 to R327): `pc <- Pop()` if `taken`, else only past the instruction. -/
def returnIf (taken : Bool) (s : State) : Result :=
  if taken then .next (jump (topWord s) (dropWord s)) else .next (advance 1 s)

/-- PUSH (R370, R371). -/
def pushWord (w : Word) (s : State) : Result := .next (advance 1 (push w s))

/-- POP rp (R372). -/
def popPair (p : Pair) (s : State) : Result :=
  .next (advance 1 (setPair p (topWord s) (dropWord s)))

/-- The pair `{A, FlagsByte()}` (R126, R371). -/
def pswWord (cfg : Config) (s : State) : Word := joinBytes s.regs.a (flagsByte cfg.pswLayout s.flags)

/-- POP PSW (R373). -/
def popPswWord (cfg : Config) (s : State) : Result :=
  .next (advance 1 (setReg .a (hi8 (topWord s))
    (setFlags (flagsOfByte cfg.pswLayout (lo8 (topWord s))) (dropWord s))))

/-- XTHL (R374): both bytes are read before either is written. -/
def exchangeTopHl (s : State) : Result :=
  .next (advance 1 (setPair .hl (topWord s) (writeWord s.sp (getPair .hl s) s)))

/-- EI and DI (R378, R379). -/
def setInterruptEnable (on : Bool) (s : State) : Result := .next (advance 1 (setInte on s))

/-- HLT (R380, R404). -/
def haltCore (s : State) : Result := .next (setStatus .halted (advance 1 s))

/-- NOP (R381). -/
def noEffect (s : State) : Result := .next (advance 1 s)

/-- An undocumented byte (R402): only the status changes, PC still addresses the byte. -/
def undocumentedByte (u : Undoc) (s : State) : Result :=
  .next (setStatus (.unimplemented (undocByte u)) s)

end Sys2Proof.Machine
end

