-- ==== Sys2Proof/Machine/Ports.lean ====
section
/-! DEFINITION. The I/O port space (20_memory.md R96 to R105): what IN reads and what OUT does. -/

namespace Sys2Proof.Machine

/-- The windowed shift value (R98). -/
def shiftWindow (x : Latches) : Byte :=
  lo8 (joinBytes x.shift1 x.shift0 >>> (8 - x.shiftOffset.toNat))

/-- `PortRead(p)` (R97). -/
def portRead (cfg : Config) (p : Byte) (s : State) : Byte :=
  match p.toNat with
  | 0 => cfg.port0Value
  | 1 => s.latches.in1
  | 2 => s.latches.in2
  | 3 => shiftWindow s.latches
  | _ => 0

/-- One sound event `(port, value)` (R105). It is output, not state (R48). -/
structure PortEvent where
  port : Byte
  value : Byte
  deriving DecidableEq, Repr

/-- `PortWrite(p, v)` (R99 to R104): the state after it and the events it emits (R102, R105), or none for a port
that raises `UnimplementedPort`. -/
def portWrite (p v : Byte) (s : State) : Option (State × List PortEvent) :=
  match p.toNat with
  | 2 => some ({ s with latches := { s.latches with shiftOffset := v.extractLsb' 0 3 } }, [])
  | 3 => some ({ s with latches := { s.latches with out3 := v } }, [⟨3, v⟩])
  | 4 => some ({ s with latches := { s.latches with shift0 := s.latches.shift1, shift1 := v } }, [])
  | 5 => some ({ s with latches := { s.latches with out5 := v } }, [⟨5, v⟩])
  | 6 => some (s, [])
  | _ => none

/-- OUT (R377): past the instruction, or, for an unrecognised port, only the status changes (R403). -/
def outToPort (p v : Byte) (s : State) : Result :=
  match portWrite p v s with
  | some (t, _) => .next (advance 2 t)
  | none => .next (setStatus (.unimplementedPort p) s)

/-- The events of an OUT (R105); none for an unrecognised port, whose step returns `[]` (R401). -/
def outEvents (p v : Byte) (s : State) : List PortEvent :=
  match portWrite p v s with
  | some (_, events) => events
  | none => []

end Sys2Proof.Machine
end

