-- ==== Sys2Proof/Machine/Meaning.lean ====
section
/-! DEFINITION. The meaning of an instruction by its form, in ANY configuration (00_scope.md R10 makes `Config` an
argument of the model). The meanings of the 256 rows are instances of it at the configuration of this machine. -/

namespace Sys2Proof.Machine

/-- The meaning of each form (40_data_transfer.md to 44_stack_io_control.md, 60_exceptions.md R402), over the shared
operations. -/
def formMeaning (cfg : Config) (f : Form) (s : State) : Result :=
  match f with
  -- R150 to R154
  | .movRR dst src => loadReg 1 dst (getReg src s) s
  | .movRM dst => loadReg 1 dst (readOpnd .m s) s
  | .movMR src => storeByte 1 (getPair .hl s) (getReg src s) s
  | .mvi (.reg r) v => loadReg 2 r v s
  | .mvi .m v => storeByte 2 (getPair .hl s) v s
  -- R155 to R162
  | .lxi rp w => loadRp 3 rp w s
  | .lda a => loadReg 3 .a (readByte a s) s
  | .sta a => storeByte 3 a s.regs.a s
  | .lhld a => loadRp 3 (.pair .hl) (readWord a s) s
  | .shld a => storeWord 3 a (getPair .hl s) s
  | .ldax p => loadReg 1 .a (readByte (getPair (idxPair p) s) s) s
  | .stax p => storeByte 1 (getPair (idxPair p) s) s.regs.a s
  | .xchg => exchangeDeHl s
  -- R203 to R214, R251 to R262
  | .alu k o => accWith cfg k 1 (readOpnd o s) s
  | .aluImm k v => accWith cfg k 2 v s
  -- R215 to R222
  | .inr o => incrOpnd cfg o s
  | .dcr o => decrOpnd cfg o s
  | .inx rp => loadRp 1 rp (readRp rp s + 1) s
  | .dcx rp => loadRp 1 rp (readRp rp s - 1) s
  | .dad rp => addToHl (readRp rp s) s
  | .daa => setAccFlags (daa8 cfg s.regs.a s.flags) s
  -- R263 to R269
  | .rlc => setAccCarry (rlc8 s.regs.a) s
  | .rrc => setAccCarry (rrc8 s.regs.a) s
  | .ral => setAccCarry (ral8 s.regs.a s.flags.cy) s
  | .rar => setAccCarry (rar8 s.regs.a s.flags.cy) s
  | .cma => loadReg 1 .a (~~~s.regs.a) s
  | .cmc => setCarry (!s.flags.cy) s
  | .stc => setCarry true s
  -- R301 to R329
  | .jmp a => jumpIf 3 true a s
  | .jcc cond a => jumpIf 3 (condHolds cond s.flags) a s
  | .call a => callIf 3 true a s
  | .ccc cond a => callIf 3 (condHolds cond s.flags) a s
  | .ret => returnIf true s
  | .rcc cond => returnIf (condHolds cond s.flags) s
  | .rst n => callIf 1 true (restartVector n.val) s
  | .pchl => jumpIf 1 true (getPair .hl s) s
  -- R370 to R381
  | .push p => pushWord (getPair p s) s
  | .pushPsw => pushWord (pswWord cfg s) s
  | .pop p => popPair p s
  | .popPsw => popPswWord cfg s
  | .xthl => exchangeTopHl s
  | .sphl => loadRp 1 .sp (getPair .hl s) s
  | .inPort p => loadReg 2 .a (portRead cfg p s) s
  | .outPort p => outToPort p s.regs.a s
  | .ei => setInterruptEnable true s
  | .di => setInterruptEnable false s
  | .hlt => haltCore s
  | .nop => noEffect s
  -- R402
  | .undocumented u => undocumentedByte u s

/-- The events an instruction emits (R105): only OUT emits any. -/
def formEvents (f : Form) (s : State) : List PortEvent :=
  match f with
  | .outPort p => outEvents p s.regs.a s
  | .nop | .movRR _ _ | .movRM _ | .movMR _ | .mvi _ _ | .lxi _ _ | .lda _ | .sta _ | .lhld _ | .shld _ => []
  | .ldax _ | .stax _ | .xchg | .alu _ _ | .aluImm _ _ | .inr _ | .dcr _ | .inx _ | .dcx _ | .dad _ | .daa => []
  | .rlc | .rrc | .ral | .rar | .cma | .cmc | .stc | .jmp _ | .jcc _ _ | .call _ | .ccc _ _ | .ret | .rcc _ => []
  | .rst _ | .pchl | .push _ | .pushPsw | .pop _ | .popPsw | .xthl | .sphl | .inPort _ | .ei | .di | .hlt => []
  | .undocumented _ => []

/-- The meaning of an instruction in a configuration. `exec` is this at `config` (lemma `exec_eq_execWith`). -/
def execWith (cfg : Config) (i : Instr) (s : State) : Result := formMeaning cfg (formOf i) s

/-- The events an instruction emits when it runs in `s`. -/
def execEvents (i : Instr) (s : State) : List PortEvent := formEvents (formOf i) s

end Sys2Proof.Machine
end

