-- ==== Sys2Proof/Machine/Scheduler.lean ====
section
/-! DEFINITION. The cycle scheduler (60_exceptions.md R416 to R419) and the cost of a step (70_reset_and_hazards.md
R459, R460), as the pieces `step` is made of: what happens before an instruction and what happens after it. -/

namespace Sys2Proof.Machine

/-- The condition of a conditional call (`11 ccc 100`) or return (`11 ccc 000`) opcode (R122), none for any
other opcode. -/
def costCondition (op : Byte) : Option Cond :=
  if fieldQuadrant op = 3 ∧ (fieldLow op = 0 ∨ fieldLow op = 4) then some (condOfCode (fieldMid op)) else none

/-- The cost of a `Continue` step (R401, R418, R460): `CYCLES[op]`, plus `TAKEN_EXTRA` for a conditional call or
return whose condition holds in the flags the step starts with. -/
def opCost (cfg : Config) (op : Byte) (f : Flags) : Nat :=
  match costCondition op with
  | some cond => if condHolds cond f then cfg.cycles op + cfg.takenExtra else cfg.cycles op
  | none => cfg.cycles op

/-- What `RunHalfFrame` does first to the state (R416, R47): the count starts afresh. -/
def beginHalfFrame (s : State) : State := { s with cycleCount := 0 }

/-- Before an instruction: when the budget of the last half-frame is spent, a new half-frame begins (R416, D21;
assumption 2). -/
def openStep (cfg : Config) (s : State) : State :=
  if cfg.halfFrameCycles ≤ s.cycleCount then beginHalfFrame s else s

/-- The vector number of the half-frame that ends (R410, R419). -/
def phaseVector : Phase → Nat
  | .top => 1
  | .bottom => 2

/-- The other half-frame (R419). -/
def otherPhase : Phase → Phase
  | .top => .bottom
  | .bottom => .top

/-- The half-frame boundary (R416): interrupt entry if INTE is set, otherwise the request is dropped (R409);
then the phase toggles. -/
def halfFrameBoundary (s : State) : State :=
  if s.inte then { takeInterrupt (phaseVector s.phase) s with phase := otherPhase s.phase }
  else { s with phase := otherPhase s.phase }

/-- After a `Continue` step: the cost is counted (R418), and when the budget is reached the half-frame ends
(R416, R417). -/
def countCycles (cfg : Config) (cost : Nat) (s : State) : State :=
  if cfg.halfFrameCycles ≤ s.cycleCount + cost then
    halfFrameBoundary { s with cycleCount := s.cycleCount + cost }
  else { s with cycleCount := s.cycleCount + cost }

/-- After any step: a terminal outcome counts no cycles, takes no interrupt and leaves the phase (R405, R416). -/
def closeStep (cfg : Config) (cost : Nat) (s : State) : State :=
  if s.status = .running then countCycles cfg cost s else s

end Sys2Proof.Machine
end

