-- ==== Sys2Proof/Machine/CoreStep.lean ====
section
/-! DEFINITION. Fetching (30_encoding.md R121) and the core's own step, without the scheduler
(60_exceptions.md R401). -/

namespace Sys2Proof.Machine

/-- The opcode byte at PC (R121); every fetch reads memory (R93). -/
def fetchOpcode (s : State) : Byte := readByte s.pc s

/-- The byte after the opcode, `b1` (R17); its address wraps (R36). -/
def fetchFirst (s : State) : Byte := readByte (s.pc + 1) s

/-- The second byte after the opcode, `b2` (R17). -/
def fetchSecond (s : State) : Byte := readByte (s.pc + 2) s

/-- The instruction at PC. Bytes its length does not cover have no part in it (R121; assumption 7). -/
def fetchInstr (s : State) : Instr := decodeInstr (fetchOpcode s) (fetchFirst s) (fetchSecond s)

/-- What `Step(cpu)` returns (R401): the state after it, whose status is the outcome (D33), the cycles, and the
events, which are output and are kept in no state (R48, R105). -/
structure StepOutput where
  cpu : State
  cycles : Nat
  events : List PortEvent
  deriving DecidableEq, Repr

/-- The outcome of a step with its output. -/
abbrev StepResult := Host.Outcome StepOutput Fault Refusal

/-- The cycles `Step` reports for an opcode run in the flags `f`, by the outcome (R401): the cost of a `Continue`
step, `CYCLES[op]` for a halt, and 0 for an unimplemented opcode or port. -/
def reportedCycles (cfg : Config) (op : Byte) (f : Flags) (outcome : Status) : Nat :=
  match outcome with
  | .running => opCost cfg op f
  | .halted => cfg.cycles op
  | .unimplemented _ => 0
  | .unimplementedPort _ => 0

/-- Running an instruction of opcode `op`, with the cycles and the events it reports (R401). -/
def runInstr (cfg : Config) (op : Byte) (i : Instr) (s : State) : StepResult :=
  match execWith cfg i s with
  | .next t => .next { cpu := t, cycles := reportedCycles cfg op s.flags t.status, events := execEvents i s }
  | .fault r => .fault r
  | .refused r => .refused r

/-- `Step(cpu)` (R401), in any configuration. It is defined only while the status is `Running` (R46). -/
def coreStep (cfg : Config) (s : State) : StepResult :=
  match s.status with
  | .running =>
    if cfg.implemented (fetchOpcode s) then runInstr cfg (fetchOpcode s) (fetchInstr s) s
    else .next { cpu := setStatus (.unimplemented (fetchOpcode s)) s, cycles := 0, events := [] }
  | st => .fault (.runEnded st)

end Sys2Proof.Machine
end

