-- ==== Sys2Proof/Machine/Settings.lean ====
section
/-! DEFINITION. The configuration this machine runs with: the defaults of 00_scope.md R10 (assumption 4), with
the cycle table of 70_reset_and_hazards.md R459. -/

namespace Sys2Proof.Machine

/-- Intel's flags byte `S Z 0 AC 0 P 1 CY`, bit 7 first: the default `PSW_LAYOUT` (R40, D7). -/
def intelPswLayout : PswLayout := { s := 7, z := 6, ac := 4, p := 2, cy := 0, fixed := 0x02 }

/-- Rows 0x0_ to 0x3_ of R459's table; 0 stands where the table has a dash (an undocumented byte, whose cost
counts toward nothing). -/
def cycleRowsLow : List (List Nat) :=
  [[4, 10, 7, 5, 5, 5, 7, 4, 0, 10, 7, 5, 5, 5, 7, 4],
   [0, 10, 7, 5, 5, 5, 7, 4, 0, 10, 7, 5, 5, 5, 7, 4],
   [0, 10, 16, 5, 5, 5, 7, 4, 0, 10, 16, 5, 5, 5, 7, 4],
   [0, 10, 13, 5, 10, 10, 10, 4, 0, 10, 13, 5, 5, 5, 7, 4]]

/-- Rows 0x4_ to 0x7_ of R459's table. -/
def cycleRowsMove : List (List Nat) :=
  [[5, 5, 5, 5, 5, 5, 7, 5, 5, 5, 5, 5, 5, 5, 7, 5],
   [5, 5, 5, 5, 5, 5, 7, 5, 5, 5, 5, 5, 5, 5, 7, 5],
   [5, 5, 5, 5, 5, 5, 7, 5, 5, 5, 5, 5, 5, 5, 7, 5],
   [7, 7, 7, 7, 7, 7, 7, 7, 5, 5, 5, 5, 5, 5, 7, 5]]

/-- Rows 0x8_ to 0xB_ of R459's table. -/
def cycleRowsAlu : List (List Nat) :=
  [[4, 4, 4, 4, 4, 4, 7, 4, 4, 4, 4, 4, 4, 4, 7, 4],
   [4, 4, 4, 4, 4, 4, 7, 4, 4, 4, 4, 4, 4, 4, 7, 4],
   [4, 4, 4, 4, 4, 4, 7, 4, 4, 4, 4, 4, 4, 4, 7, 4],
   [4, 4, 4, 4, 4, 4, 7, 4, 4, 4, 4, 4, 4, 4, 7, 4]]

/-- Rows 0xC_ to 0xF_ of R459's table. -/
def cycleRowsHigh : List (List Nat) :=
  [[5, 10, 10, 10, 11, 11, 7, 11, 5, 10, 10, 0, 11, 17, 7, 11],
   [5, 10, 10, 10, 11, 11, 7, 11, 5, 0, 10, 10, 11, 0, 7, 11],
   [5, 10, 10, 18, 11, 11, 7, 11, 5, 5, 10, 4, 11, 0, 7, 11],
   [5, 10, 10, 4, 11, 11, 7, 11, 5, 5, 10, 4, 11, 0, 7, 11]]

/-- The default `CYCLES` (R459): row by high nibble, column by low nibble. -/
def defaultCycles (op : Byte) : Nat :=
  ((cycleRowsLow ++ cycleRowsMove ++ cycleRowsAlu ++ cycleRowsHigh).getD (op.toNat / 16) []).getD
    (op.toNat % 16) 0

/-- The 12 bytes of R131. -/
def undocumentedBytes : List Byte :=
  [0x08, 0x10, 0x18, 0x20, 0x28, 0x30, 0x38, 0xCB, 0xD9, 0xDD, 0xED, 0xFD]

/-- The default `IMPLEMENTED` (R132): every byte except the 12 of R131. -/
def defaultImplemented (op : Byte) : Bool := !undocumentedBytes.contains op

/-- The configuration of this machine: R10's defaults, and the open `PORT0_VALUE`. -/
def config : Config where
  acMode := .literal
  port0Value := Config.openPort0Value
  halfFrameCycles := 16667
  cycles := defaultCycles
  takenExtra := 6
  implemented := defaultImplemented
  pswLayout := intelPswLayout

end Sys2Proof.Machine
end

