-- ==== Sys2Proof/Machine/Arithmetic.lean ====
section
/-! DEFINITION. The meanings of 41_arithmetic.md: ADD, ADC, SUB, SBB and their immediates, INR, DCR, INX, DCX,
DAD, DAA (R203 to R222), one definition per row of the opcode table. Each is its form's meaning
(Machine/Meaning.lean) at this machine's configuration. The docstrings give the rule, the opcode byte and the
spelling of the row. -/

namespace Sys2Proof.Machine

/-- R219, 0x03: INX B. -/
def execInxB (s : State) : Result := formMeaning config (.inx (.pair .bc)) s

/-- R215, 0x04: INR B. -/
def execInrB (s : State) : Result := formMeaning config (.inr (.reg .b)) s

/-- R217, 0x05: DCR B. -/
def execDcrB (s : State) : Result := formMeaning config (.dcr (.reg .b)) s

/-- R221, 0x09: DAD B. -/
def execDadB (s : State) : Result := formMeaning config (.dad (.pair .bc)) s

/-- R220, 0x0B: DCX B. -/
def execDcxB (s : State) : Result := formMeaning config (.dcx (.pair .bc)) s

/-- R215, 0x0C: INR C. -/
def execInrC (s : State) : Result := formMeaning config (.inr (.reg .c)) s

/-- R217, 0x0D: DCR C. -/
def execDcrC (s : State) : Result := formMeaning config (.dcr (.reg .c)) s

/-- R219, 0x13: INX D. -/
def execInxD (s : State) : Result := formMeaning config (.inx (.pair .de)) s

/-- R215, 0x14: INR D. -/
def execInrD (s : State) : Result := formMeaning config (.inr (.reg .d)) s

/-- R217, 0x15: DCR D. -/
def execDcrD (s : State) : Result := formMeaning config (.dcr (.reg .d)) s

/-- R221, 0x19: DAD D. -/
def execDadD (s : State) : Result := formMeaning config (.dad (.pair .de)) s

/-- R220, 0x1B: DCX D. -/
def execDcxD (s : State) : Result := formMeaning config (.dcx (.pair .de)) s

/-- R215, 0x1C: INR E. -/
def execInrE (s : State) : Result := formMeaning config (.inr (.reg .e)) s

/-- R217, 0x1D: DCR E. -/
def execDcrE (s : State) : Result := formMeaning config (.dcr (.reg .e)) s

/-- R219, 0x23: INX H. -/
def execInxH (s : State) : Result := formMeaning config (.inx (.pair .hl)) s

/-- R215, 0x24: INR H. -/
def execInrH (s : State) : Result := formMeaning config (.inr (.reg .h)) s

/-- R217, 0x25: DCR H. -/
def execDcrH (s : State) : Result := formMeaning config (.dcr (.reg .h)) s

/-- R222, 0x27: DAA. -/
def execDaa (s : State) : Result := formMeaning config .daa s

/-- R221, 0x29: DAD H. -/
def execDadH (s : State) : Result := formMeaning config (.dad (.pair .hl)) s

/-- R220, 0x2B: DCX H. -/
def execDcxH (s : State) : Result := formMeaning config (.dcx (.pair .hl)) s

/-- R215, 0x2C: INR L. -/
def execInrL (s : State) : Result := formMeaning config (.inr (.reg .l)) s

/-- R217, 0x2D: DCR L. -/
def execDcrL (s : State) : Result := formMeaning config (.dcr (.reg .l)) s

/-- R219, 0x33: INX SP. -/
def execInxSP (s : State) : Result := formMeaning config (.inx .sp) s

/-- R216, 0x34: INR M. -/
def execInrM (s : State) : Result := formMeaning config (.inr .m) s

/-- R218, 0x35: DCR M. -/
def execDcrM (s : State) : Result := formMeaning config (.dcr .m) s

/-- R221, 0x39: DAD SP. -/
def execDadSP (s : State) : Result := formMeaning config (.dad .sp) s

/-- R220, 0x3B: DCX SP. -/
def execDcxSP (s : State) : Result := formMeaning config (.dcx .sp) s

/-- R215, 0x3C: INR A. -/
def execInrA (s : State) : Result := formMeaning config (.inr (.reg .a)) s

/-- R217, 0x3D: DCR A. -/
def execDcrA (s : State) : Result := formMeaning config (.dcr (.reg .a)) s

/-- R203, 0x80: ADD B. -/
def execAddB (s : State) : Result := formMeaning config (.alu .add (.reg .b)) s

/-- R203, 0x81: ADD C. -/
def execAddC (s : State) : Result := formMeaning config (.alu .add (.reg .c)) s

/-- R203, 0x82: ADD D. -/
def execAddD (s : State) : Result := formMeaning config (.alu .add (.reg .d)) s

/-- R203, 0x83: ADD E. -/
def execAddE (s : State) : Result := formMeaning config (.alu .add (.reg .e)) s

/-- R203, 0x84: ADD H. -/
def execAddH (s : State) : Result := formMeaning config (.alu .add (.reg .h)) s

/-- R203, 0x85: ADD L. -/
def execAddL (s : State) : Result := formMeaning config (.alu .add (.reg .l)) s

/-- R204, 0x86: ADD M. -/
def execAddM (s : State) : Result := formMeaning config (.alu .add .m) s

/-- R203, 0x87: ADD A. -/
def execAddA (s : State) : Result := formMeaning config (.alu .add (.reg .a)) s

/-- R206, 0x88: ADC B. -/
def execAdcB (s : State) : Result := formMeaning config (.alu .adc (.reg .b)) s

/-- R206, 0x89: ADC C. -/
def execAdcC (s : State) : Result := formMeaning config (.alu .adc (.reg .c)) s

/-- R206, 0x8A: ADC D. -/
def execAdcD (s : State) : Result := formMeaning config (.alu .adc (.reg .d)) s

/-- R206, 0x8B: ADC E. -/
def execAdcE (s : State) : Result := formMeaning config (.alu .adc (.reg .e)) s

/-- R206, 0x8C: ADC H. -/
def execAdcH (s : State) : Result := formMeaning config (.alu .adc (.reg .h)) s

/-- R206, 0x8D: ADC L. -/
def execAdcL (s : State) : Result := formMeaning config (.alu .adc (.reg .l)) s

/-- R207, 0x8E: ADC M. -/
def execAdcM (s : State) : Result := formMeaning config (.alu .adc .m) s

/-- R206, 0x8F: ADC A. -/
def execAdcA (s : State) : Result := formMeaning config (.alu .adc (.reg .a)) s

/-- R209, 0x90: SUB B. -/
def execSubB (s : State) : Result := formMeaning config (.alu .sub (.reg .b)) s

/-- R209, 0x91: SUB C. -/
def execSubC (s : State) : Result := formMeaning config (.alu .sub (.reg .c)) s

/-- R209, 0x92: SUB D. -/
def execSubD (s : State) : Result := formMeaning config (.alu .sub (.reg .d)) s

/-- R209, 0x93: SUB E. -/
def execSubE (s : State) : Result := formMeaning config (.alu .sub (.reg .e)) s

/-- R209, 0x94: SUB H. -/
def execSubH (s : State) : Result := formMeaning config (.alu .sub (.reg .h)) s

/-- R209, 0x95: SUB L. -/
def execSubL (s : State) : Result := formMeaning config (.alu .sub (.reg .l)) s

/-- R210, 0x96: SUB M. -/
def execSubM (s : State) : Result := formMeaning config (.alu .sub .m) s

/-- R209, 0x97: SUB A. -/
def execSubA (s : State) : Result := formMeaning config (.alu .sub (.reg .a)) s

/-- R212, 0x98: SBB B. -/
def execSbbB (s : State) : Result := formMeaning config (.alu .sbb (.reg .b)) s

/-- R212, 0x99: SBB C. -/
def execSbbC (s : State) : Result := formMeaning config (.alu .sbb (.reg .c)) s

/-- R212, 0x9A: SBB D. -/
def execSbbD (s : State) : Result := formMeaning config (.alu .sbb (.reg .d)) s

/-- R212, 0x9B: SBB E. -/
def execSbbE (s : State) : Result := formMeaning config (.alu .sbb (.reg .e)) s

/-- R212, 0x9C: SBB H. -/
def execSbbH (s : State) : Result := formMeaning config (.alu .sbb (.reg .h)) s

/-- R212, 0x9D: SBB L. -/
def execSbbL (s : State) : Result := formMeaning config (.alu .sbb (.reg .l)) s

/-- R213, 0x9E: SBB M. -/
def execSbbM (s : State) : Result := formMeaning config (.alu .sbb .m) s

/-- R212, 0x9F: SBB A. -/
def execSbbA (s : State) : Result := formMeaning config (.alu .sbb (.reg .a)) s

/-- R205, 0xC6: ADI d8. -/
def execAdi (x : Byte) (s : State) : Result := formMeaning config (.aluImm .add x) s

/-- R208, 0xCE: ACI d8. -/
def execAci (x : Byte) (s : State) : Result := formMeaning config (.aluImm .adc x) s

/-- R211, 0xD6: SUI d8. -/
def execSui (x : Byte) (s : State) : Result := formMeaning config (.aluImm .sub x) s

/-- R214, 0xDE: SBI d8. -/
def execSbi (x : Byte) (s : State) : Result := formMeaning config (.aluImm .sbb x) s

end Sys2Proof.Machine
end

