-- ==== Sys2Proof/Machine/Branch.lean ====
section
/-! DEFINITION. The meanings of 43_branch.md: JMP, Jcc, CALL, Ccc, RET, Rcc, RST, PCHL (R301 to R329), one
definition per row of the opcode table. Each is its form's meaning (Machine/Meaning.lean) at this machine's
configuration. The docstrings give the rule, the opcode byte and the spelling of the row. -/

namespace Sys2Proof.Machine

/-- R320, 0xC0: RNZ. -/
def execRnz (s : State) : Result := formMeaning config (.rcc .nz) s

/-- R302, 0xC2: JNZ a16. -/
def execJnz (x : Word) (s : State) : Result := formMeaning config (.jcc .nz x) s

/-- R301, 0xC3: JMP a16. -/
def execJmp (x : Word) (s : State) : Result := formMeaning config (.jmp x) s

/-- R311, 0xC4: CNZ a16. -/
def execCnz (x : Word) (s : State) : Result := formMeaning config (.ccc .nz x) s

/-- R328, 0xC7: RST 0. -/
def execRst0 (s : State) : Result := formMeaning config (.rst 0) s

/-- R321, 0xC8: RZ. -/
def execRz (s : State) : Result := formMeaning config (.rcc .z) s

/-- R319, 0xC9: RET. -/
def execRet (s : State) : Result := formMeaning config .ret s

/-- R303, 0xCA: JZ a16. -/
def execJz (x : Word) (s : State) : Result := formMeaning config (.jcc .z x) s

/-- R312, 0xCC: CZ a16. -/
def execCz (x : Word) (s : State) : Result := formMeaning config (.ccc .z x) s

/-- R310, 0xCD: CALL a16. -/
def execCall (x : Word) (s : State) : Result := formMeaning config (.call x) s

/-- R328, 0xCF: RST 1. -/
def execRst1 (s : State) : Result := formMeaning config (.rst 1) s

/-- R322, 0xD0: RNC. -/
def execRnc (s : State) : Result := formMeaning config (.rcc .nc) s

/-- R304, 0xD2: JNC a16. -/
def execJnc (x : Word) (s : State) : Result := formMeaning config (.jcc .nc x) s

/-- R313, 0xD4: CNC a16. -/
def execCnc (x : Word) (s : State) : Result := formMeaning config (.ccc .nc x) s

/-- R328, 0xD7: RST 2. -/
def execRst2 (s : State) : Result := formMeaning config (.rst 2) s

/-- R323, 0xD8: RC. -/
def execRc (s : State) : Result := formMeaning config (.rcc .c) s

/-- R305, 0xDA: JC a16. -/
def execJc (x : Word) (s : State) : Result := formMeaning config (.jcc .c x) s

/-- R314, 0xDC: CC a16. -/
def execCc (x : Word) (s : State) : Result := formMeaning config (.ccc .c x) s

/-- R328, 0xDF: RST 3. -/
def execRst3 (s : State) : Result := formMeaning config (.rst 3) s

/-- R324, 0xE0: RPO. -/
def execRpo (s : State) : Result := formMeaning config (.rcc .po) s

/-- R306, 0xE2: JPO a16. -/
def execJpo (x : Word) (s : State) : Result := formMeaning config (.jcc .po x) s

/-- R315, 0xE4: CPO a16. -/
def execCpo (x : Word) (s : State) : Result := formMeaning config (.ccc .po x) s

/-- R328, 0xE7: RST 4. -/
def execRst4 (s : State) : Result := formMeaning config (.rst 4) s

/-- R325, 0xE8: RPE. -/
def execRpe (s : State) : Result := formMeaning config (.rcc .pe) s

/-- R329, 0xE9: PCHL. -/
def execPchl (s : State) : Result := formMeaning config .pchl s

/-- R307, 0xEA: JPE a16. -/
def execJpe (x : Word) (s : State) : Result := formMeaning config (.jcc .pe x) s

/-- R316, 0xEC: CPE a16. -/
def execCpe (x : Word) (s : State) : Result := formMeaning config (.ccc .pe x) s

/-- R328, 0xEF: RST 5. -/
def execRst5 (s : State) : Result := formMeaning config (.rst 5) s

/-- R326, 0xF0: RP. -/
def execRp (s : State) : Result := formMeaning config (.rcc .p) s

/-- R308, 0xF2: JP a16. -/
def execJp (x : Word) (s : State) : Result := formMeaning config (.jcc .p x) s

/-- R317, 0xF4: CP a16. -/
def execCp (x : Word) (s : State) : Result := formMeaning config (.ccc .p x) s

/-- R328, 0xF7: RST 6. -/
def execRst6 (s : State) : Result := formMeaning config (.rst 6) s

/-- R327, 0xF8: RM. -/
def execRm (s : State) : Result := formMeaning config (.rcc .m) s

/-- R309, 0xFA: JM a16. -/
def execJm (x : Word) (s : State) : Result := formMeaning config (.jcc .m x) s

/-- R318, 0xFC: CM a16. -/
def execCm (x : Word) (s : State) : Result := formMeaning config (.ccc .m x) s

/-- R328, 0xFF: RST 7. -/
def execRst7 (s : State) : Result := formMeaning config (.rst 7) s

end Sys2Proof.Machine
end

