-- ==== Sys2Proof/Machine/DataTransfer.lean ====
section
/-! DEFINITION. The meanings of 40_data_transfer.md: MOV, MVI, LXI, LDA, STA, LHLD, SHLD, LDAX, STAX, XCHG (R150
to R162), one definition per row of the opcode table. Each is its form's meaning (Machine/Meaning.lean) at this
machine's configuration. The docstrings give the rule, the opcode byte and the spelling of the row. -/

namespace Sys2Proof.Machine

/-- R155, 0x01: LXI B,d16. -/
def execLxiB (x : Word) (s : State) : Result := formMeaning config (.lxi (.pair .bc) x) s

/-- R161, 0x02: STAX B. -/
def execStaxB (s : State) : Result := formMeaning config (.stax .bc) s

/-- R153, 0x06: MVI B,d8. -/
def execMviB (x : Byte) (s : State) : Result := formMeaning config (.mvi (.reg .b) x) s

/-- R160, 0x0A: LDAX B. -/
def execLdaxB (s : State) : Result := formMeaning config (.ldax .bc) s

/-- R153, 0x0E: MVI C,d8. -/
def execMviC (x : Byte) (s : State) : Result := formMeaning config (.mvi (.reg .c) x) s

/-- R155, 0x11: LXI D,d16. -/
def execLxiD (x : Word) (s : State) : Result := formMeaning config (.lxi (.pair .de) x) s

/-- R161, 0x12: STAX D. -/
def execStaxD (s : State) : Result := formMeaning config (.stax .de) s

/-- R153, 0x16: MVI D,d8. -/
def execMviD (x : Byte) (s : State) : Result := formMeaning config (.mvi (.reg .d) x) s

/-- R160, 0x1A: LDAX D. -/
def execLdaxD (s : State) : Result := formMeaning config (.ldax .de) s

/-- R153, 0x1E: MVI E,d8. -/
def execMviE (x : Byte) (s : State) : Result := formMeaning config (.mvi (.reg .e) x) s

/-- R155, 0x21: LXI H,d16. -/
def execLxiH (x : Word) (s : State) : Result := formMeaning config (.lxi (.pair .hl) x) s

/-- R159, 0x22: SHLD a16. -/
def execShld (x : Word) (s : State) : Result := formMeaning config (.shld x) s

/-- R153, 0x26: MVI H,d8. -/
def execMviH (x : Byte) (s : State) : Result := formMeaning config (.mvi (.reg .h) x) s

/-- R158, 0x2A: LHLD a16. -/
def execLhld (x : Word) (s : State) : Result := formMeaning config (.lhld x) s

/-- R153, 0x2E: MVI L,d8. -/
def execMviL (x : Byte) (s : State) : Result := formMeaning config (.mvi (.reg .l) x) s

/-- R155, 0x31: LXI SP,d16. -/
def execLxiSP (x : Word) (s : State) : Result := formMeaning config (.lxi .sp x) s

/-- R157, 0x32: STA a16. -/
def execSta (x : Word) (s : State) : Result := formMeaning config (.sta x) s

/-- R154, 0x36: MVI M,d8. -/
def execMviM (x : Byte) (s : State) : Result := formMeaning config (.mvi .m x) s

/-- R156, 0x3A: LDA a16. -/
def execLda (x : Word) (s : State) : Result := formMeaning config (.lda x) s

/-- R153, 0x3E: MVI A,d8. -/
def execMviA (x : Byte) (s : State) : Result := formMeaning config (.mvi (.reg .a) x) s

/-- R150, 0x40: MOV B,B. -/
def execMovBB (s : State) : Result := formMeaning config (.movRR .b .b) s

/-- R150, 0x41: MOV B,C. -/
def execMovBC (s : State) : Result := formMeaning config (.movRR .b .c) s

/-- R150, 0x42: MOV B,D. -/
def execMovBD (s : State) : Result := formMeaning config (.movRR .b .d) s

/-- R150, 0x43: MOV B,E. -/
def execMovBE (s : State) : Result := formMeaning config (.movRR .b .e) s

/-- R150, 0x44: MOV B,H. -/
def execMovBH (s : State) : Result := formMeaning config (.movRR .b .h) s

/-- R150, 0x45: MOV B,L. -/
def execMovBL (s : State) : Result := formMeaning config (.movRR .b .l) s

/-- R151, 0x46: MOV B,M. -/
def execMovBM (s : State) : Result := formMeaning config (.movRM .b) s

/-- R150, 0x47: MOV B,A. -/
def execMovBA (s : State) : Result := formMeaning config (.movRR .b .a) s

/-- R150, 0x48: MOV C,B. -/
def execMovCB (s : State) : Result := formMeaning config (.movRR .c .b) s

/-- R150, 0x49: MOV C,C. -/
def execMovCC (s : State) : Result := formMeaning config (.movRR .c .c) s

/-- R150, 0x4A: MOV C,D. -/
def execMovCD (s : State) : Result := formMeaning config (.movRR .c .d) s

/-- R150, 0x4B: MOV C,E. -/
def execMovCE (s : State) : Result := formMeaning config (.movRR .c .e) s

/-- R150, 0x4C: MOV C,H. -/
def execMovCH (s : State) : Result := formMeaning config (.movRR .c .h) s

/-- R150, 0x4D: MOV C,L. -/
def execMovCL (s : State) : Result := formMeaning config (.movRR .c .l) s

/-- R151, 0x4E: MOV C,M. -/
def execMovCM (s : State) : Result := formMeaning config (.movRM .c) s

/-- R150, 0x4F: MOV C,A. -/
def execMovCA (s : State) : Result := formMeaning config (.movRR .c .a) s

/-- R150, 0x50: MOV D,B. -/
def execMovDB (s : State) : Result := formMeaning config (.movRR .d .b) s

/-- R150, 0x51: MOV D,C. -/
def execMovDC (s : State) : Result := formMeaning config (.movRR .d .c) s

/-- R150, 0x52: MOV D,D. -/
def execMovDD (s : State) : Result := formMeaning config (.movRR .d .d) s

/-- R150, 0x53: MOV D,E. -/
def execMovDE (s : State) : Result := formMeaning config (.movRR .d .e) s

/-- R150, 0x54: MOV D,H. -/
def execMovDH (s : State) : Result := formMeaning config (.movRR .d .h) s

/-- R150, 0x55: MOV D,L. -/
def execMovDL (s : State) : Result := formMeaning config (.movRR .d .l) s

/-- R151, 0x56: MOV D,M. -/
def execMovDM (s : State) : Result := formMeaning config (.movRM .d) s

/-- R150, 0x57: MOV D,A. -/
def execMovDA (s : State) : Result := formMeaning config (.movRR .d .a) s

/-- R150, 0x58: MOV E,B. -/
def execMovEB (s : State) : Result := formMeaning config (.movRR .e .b) s

/-- R150, 0x59: MOV E,C. -/
def execMovEC (s : State) : Result := formMeaning config (.movRR .e .c) s

/-- R150, 0x5A: MOV E,D. -/
def execMovED (s : State) : Result := formMeaning config (.movRR .e .d) s

/-- R150, 0x5B: MOV E,E. -/
def execMovEE (s : State) : Result := formMeaning config (.movRR .e .e) s

/-- R150, 0x5C: MOV E,H. -/
def execMovEH (s : State) : Result := formMeaning config (.movRR .e .h) s

/-- R150, 0x5D: MOV E,L. -/
def execMovEL (s : State) : Result := formMeaning config (.movRR .e .l) s

/-- R151, 0x5E: MOV E,M. -/
def execMovEM (s : State) : Result := formMeaning config (.movRM .e) s

/-- R150, 0x5F: MOV E,A. -/
def execMovEA (s : State) : Result := formMeaning config (.movRR .e .a) s

/-- R150, 0x60: MOV H,B. -/
def execMovHB (s : State) : Result := formMeaning config (.movRR .h .b) s

/-- R150, 0x61: MOV H,C. -/
def execMovHC (s : State) : Result := formMeaning config (.movRR .h .c) s

/-- R150, 0x62: MOV H,D. -/
def execMovHD (s : State) : Result := formMeaning config (.movRR .h .d) s

/-- R150, 0x63: MOV H,E. -/
def execMovHE (s : State) : Result := formMeaning config (.movRR .h .e) s

/-- R150, 0x64: MOV H,H. -/
def execMovHH (s : State) : Result := formMeaning config (.movRR .h .h) s

/-- R150, 0x65: MOV H,L. -/
def execMovHL (s : State) : Result := formMeaning config (.movRR .h .l) s

/-- R151, 0x66: MOV H,M. -/
def execMovHM (s : State) : Result := formMeaning config (.movRM .h) s

/-- R150, 0x67: MOV H,A. -/
def execMovHA (s : State) : Result := formMeaning config (.movRR .h .a) s

/-- R150, 0x68: MOV L,B. -/
def execMovLB (s : State) : Result := formMeaning config (.movRR .l .b) s

/-- R150, 0x69: MOV L,C. -/
def execMovLC (s : State) : Result := formMeaning config (.movRR .l .c) s

/-- R150, 0x6A: MOV L,D. -/
def execMovLD (s : State) : Result := formMeaning config (.movRR .l .d) s

/-- R150, 0x6B: MOV L,E. -/
def execMovLE (s : State) : Result := formMeaning config (.movRR .l .e) s

/-- R150, 0x6C: MOV L,H. -/
def execMovLH (s : State) : Result := formMeaning config (.movRR .l .h) s

/-- R150, 0x6D: MOV L,L. -/
def execMovLL (s : State) : Result := formMeaning config (.movRR .l .l) s

/-- R151, 0x6E: MOV L,M. -/
def execMovLM (s : State) : Result := formMeaning config (.movRM .l) s

/-- R150, 0x6F: MOV L,A. -/
def execMovLA (s : State) : Result := formMeaning config (.movRR .l .a) s

/-- R152, 0x70: MOV M,B. -/
def execMovMB (s : State) : Result := formMeaning config (.movMR .b) s

/-- R152, 0x71: MOV M,C. -/
def execMovMC (s : State) : Result := formMeaning config (.movMR .c) s

/-- R152, 0x72: MOV M,D. -/
def execMovMD (s : State) : Result := formMeaning config (.movMR .d) s

/-- R152, 0x73: MOV M,E. -/
def execMovME (s : State) : Result := formMeaning config (.movMR .e) s

/-- R152, 0x74: MOV M,H. -/
def execMovMH (s : State) : Result := formMeaning config (.movMR .h) s

/-- R152, 0x75: MOV M,L. -/
def execMovML (s : State) : Result := formMeaning config (.movMR .l) s

/-- R152, 0x77: MOV M,A. -/
def execMovMA (s : State) : Result := formMeaning config (.movMR .a) s

/-- R150, 0x78: MOV A,B. -/
def execMovAB (s : State) : Result := formMeaning config (.movRR .a .b) s

/-- R150, 0x79: MOV A,C. -/
def execMovAC (s : State) : Result := formMeaning config (.movRR .a .c) s

/-- R150, 0x7A: MOV A,D. -/
def execMovAD (s : State) : Result := formMeaning config (.movRR .a .d) s

/-- R150, 0x7B: MOV A,E. -/
def execMovAE (s : State) : Result := formMeaning config (.movRR .a .e) s

/-- R150, 0x7C: MOV A,H. -/
def execMovAH (s : State) : Result := formMeaning config (.movRR .a .h) s

/-- R150, 0x7D: MOV A,L. -/
def execMovAL (s : State) : Result := formMeaning config (.movRR .a .l) s

/-- R151, 0x7E: MOV A,M. -/
def execMovAM (s : State) : Result := formMeaning config (.movRM .a) s

/-- R150, 0x7F: MOV A,A. -/
def execMovAA (s : State) : Result := formMeaning config (.movRR .a .a) s

/-- R162, 0xEB: XCHG. -/
def execXchg (s : State) : Result := formMeaning config .xchg s

end Sys2Proof.Machine
end

