-- ==== Sys2Proof/Machine/Logical.lean ====
section
/-! DEFINITION. The meanings of 42_logical.md: ANA, XRA, ORA, CMP and their immediates, the rotates, CMA, CMC, STC
(R251 to R269), one definition per row of the opcode table. Each is its form's meaning (Machine/Meaning.lean) at
this machine's configuration. The docstrings give the rule, the opcode byte and the spelling of the row. -/

namespace Sys2Proof.Machine

/-- R263, 0x07: RLC. -/
def execRlc (s : State) : Result := formMeaning config .rlc s

/-- R264, 0x0F: RRC. -/
def execRrc (s : State) : Result := formMeaning config .rrc s

/-- R265, 0x17: RAL. -/
def execRal (s : State) : Result := formMeaning config .ral s

/-- R266, 0x1F: RAR. -/
def execRar (s : State) : Result := formMeaning config .rar s

/-- R267, 0x2F: CMA. -/
def execCma (s : State) : Result := formMeaning config .cma s

/-- R269, 0x37: STC. -/
def execStc (s : State) : Result := formMeaning config .stc s

/-- R268, 0x3F: CMC. -/
def execCmc (s : State) : Result := formMeaning config .cmc s

/-- R251, 0xA0: ANA B. -/
def execAnaB (s : State) : Result := formMeaning config (.alu .ana (.reg .b)) s

/-- R251, 0xA1: ANA C. -/
def execAnaC (s : State) : Result := formMeaning config (.alu .ana (.reg .c)) s

/-- R251, 0xA2: ANA D. -/
def execAnaD (s : State) : Result := formMeaning config (.alu .ana (.reg .d)) s

/-- R251, 0xA3: ANA E. -/
def execAnaE (s : State) : Result := formMeaning config (.alu .ana (.reg .e)) s

/-- R251, 0xA4: ANA H. -/
def execAnaH (s : State) : Result := formMeaning config (.alu .ana (.reg .h)) s

/-- R251, 0xA5: ANA L. -/
def execAnaL (s : State) : Result := formMeaning config (.alu .ana (.reg .l)) s

/-- R252, 0xA6: ANA M. -/
def execAnaM (s : State) : Result := formMeaning config (.alu .ana .m) s

/-- R251, 0xA7: ANA A. -/
def execAnaA (s : State) : Result := formMeaning config (.alu .ana (.reg .a)) s

/-- R254, 0xA8: XRA B. -/
def execXraB (s : State) : Result := formMeaning config (.alu .xra (.reg .b)) s

/-- R254, 0xA9: XRA C. -/
def execXraC (s : State) : Result := formMeaning config (.alu .xra (.reg .c)) s

/-- R254, 0xAA: XRA D. -/
def execXraD (s : State) : Result := formMeaning config (.alu .xra (.reg .d)) s

/-- R254, 0xAB: XRA E. -/
def execXraE (s : State) : Result := formMeaning config (.alu .xra (.reg .e)) s

/-- R254, 0xAC: XRA H. -/
def execXraH (s : State) : Result := formMeaning config (.alu .xra (.reg .h)) s

/-- R254, 0xAD: XRA L. -/
def execXraL (s : State) : Result := formMeaning config (.alu .xra (.reg .l)) s

/-- R255, 0xAE: XRA M. -/
def execXraM (s : State) : Result := formMeaning config (.alu .xra .m) s

/-- R254, 0xAF: XRA A. -/
def execXraA (s : State) : Result := formMeaning config (.alu .xra (.reg .a)) s

/-- R257, 0xB0: ORA B. -/
def execOraB (s : State) : Result := formMeaning config (.alu .ora (.reg .b)) s

/-- R257, 0xB1: ORA C. -/
def execOraC (s : State) : Result := formMeaning config (.alu .ora (.reg .c)) s

/-- R257, 0xB2: ORA D. -/
def execOraD (s : State) : Result := formMeaning config (.alu .ora (.reg .d)) s

/-- R257, 0xB3: ORA E. -/
def execOraE (s : State) : Result := formMeaning config (.alu .ora (.reg .e)) s

/-- R257, 0xB4: ORA H. -/
def execOraH (s : State) : Result := formMeaning config (.alu .ora (.reg .h)) s

/-- R257, 0xB5: ORA L. -/
def execOraL (s : State) : Result := formMeaning config (.alu .ora (.reg .l)) s

/-- R258, 0xB6: ORA M. -/
def execOraM (s : State) : Result := formMeaning config (.alu .ora .m) s

/-- R257, 0xB7: ORA A. -/
def execOraA (s : State) : Result := formMeaning config (.alu .ora (.reg .a)) s

/-- R260, 0xB8: CMP B. -/
def execCmpB (s : State) : Result := formMeaning config (.alu .cmp (.reg .b)) s

/-- R260, 0xB9: CMP C. -/
def execCmpC (s : State) : Result := formMeaning config (.alu .cmp (.reg .c)) s

/-- R260, 0xBA: CMP D. -/
def execCmpD (s : State) : Result := formMeaning config (.alu .cmp (.reg .d)) s

/-- R260, 0xBB: CMP E. -/
def execCmpE (s : State) : Result := formMeaning config (.alu .cmp (.reg .e)) s

/-- R260, 0xBC: CMP H. -/
def execCmpH (s : State) : Result := formMeaning config (.alu .cmp (.reg .h)) s

/-- R260, 0xBD: CMP L. -/
def execCmpL (s : State) : Result := formMeaning config (.alu .cmp (.reg .l)) s

/-- R261, 0xBE: CMP M. -/
def execCmpM (s : State) : Result := formMeaning config (.alu .cmp .m) s

/-- R260, 0xBF: CMP A. -/
def execCmpA (s : State) : Result := formMeaning config (.alu .cmp (.reg .a)) s

/-- R253, 0xE6: ANI d8. -/
def execAni (x : Byte) (s : State) : Result := formMeaning config (.aluImm .ana x) s

/-- R256, 0xEE: XRI d8. -/
def execXri (x : Byte) (s : State) : Result := formMeaning config (.aluImm .xra x) s

/-- R259, 0xF6: ORI d8. -/
def execOri (x : Byte) (s : State) : Result := formMeaning config (.aluImm .ora x) s

/-- R262, 0xFE: CPI d8. -/
def execCpi (x : Byte) (s : State) : Result := formMeaning config (.aluImm .cmp x) s

end Sys2Proof.Machine
end

