-- ==== Sys2Proof/Machine/StackIo.lean ====
section
/-! DEFINITION. The meanings of 44_stack_io_control.md: PUSH, POP, XTHL, SPHL, IN, OUT, EI, DI, HLT, NOP (R370 to
R381), one definition per row of the opcode table. Each is its form's meaning (Machine/Meaning.lean) at this
machine's configuration. The docstrings give the rule, the opcode byte and the spelling of the row. -/

namespace Sys2Proof.Machine

/-- R381, 0x00: NOP. -/
def execNop (s : State) : Result := formMeaning config .nop s

/-- R380, 0x76: HLT. -/
def execHlt (s : State) : Result := formMeaning config .hlt s

/-- R372, 0xC1: POP B. -/
def execPopB (s : State) : Result := formMeaning config (.pop .bc) s

/-- R370, 0xC5: PUSH B. -/
def execPushB (s : State) : Result := formMeaning config (.push .bc) s

/-- R372, 0xD1: POP D. -/
def execPopD (s : State) : Result := formMeaning config (.pop .de) s

/-- R377, 0xD3: OUT p8. -/
def execOutPort (x : Byte) (s : State) : Result := formMeaning config (.outPort x) s

/-- R370, 0xD5: PUSH D. -/
def execPushD (s : State) : Result := formMeaning config (.push .de) s

/-- R376, 0xDB: IN p8. -/
def execInPort (x : Byte) (s : State) : Result := formMeaning config (.inPort x) s

/-- R372, 0xE1: POP H. -/
def execPopH (s : State) : Result := formMeaning config (.pop .hl) s

/-- R374, 0xE3: XTHL. -/
def execXthl (s : State) : Result := formMeaning config .xthl s

/-- R370, 0xE5: PUSH H. -/
def execPushH (s : State) : Result := formMeaning config (.push .hl) s

/-- R373, 0xF1: POP PSW. -/
def execPopPSW (s : State) : Result := formMeaning config .popPsw s

/-- R379, 0xF3: DI. -/
def execDi (s : State) : Result := formMeaning config .di s

/-- R371, 0xF5: PUSH PSW. -/
def execPushPSW (s : State) : Result := formMeaning config .pushPsw s

/-- R375, 0xF9: SPHL. -/
def execSphl (s : State) : Result := formMeaning config .sphl s

/-- R378, 0xFB: EI. -/
def execEi (s : State) : Result := formMeaning config .ei s

end Sys2Proof.Machine
end

