-- ==== Sys2Proof/Machine/Undocumented.lean ====
section
/-! DEFINITION. The meanings of 60_exceptions.md: the 12 undocumented bytes (R402), one definition per row of the
opcode table. Each is its form's meaning (Machine/Meaning.lean) at this machine's configuration. The docstrings
give the rule, the opcode byte and the spelling of the row. -/

namespace Sys2Proof.Machine

/-- R402, 0x08: (undocumented 0x08). -/
def execUndocumented08 (s : State) : Result := formMeaning config (.undocumented .u08) s

/-- R402, 0x10: (undocumented 0x10). -/
def execUndocumented10 (s : State) : Result := formMeaning config (.undocumented .u10) s

/-- R402, 0x18: (undocumented 0x18). -/
def execUndocumented18 (s : State) : Result := formMeaning config (.undocumented .u18) s

/-- R402, 0x20: (undocumented 0x20). -/
def execUndocumented20 (s : State) : Result := formMeaning config (.undocumented .u20) s

/-- R402, 0x28: (undocumented 0x28). -/
def execUndocumented28 (s : State) : Result := formMeaning config (.undocumented .u28) s

/-- R402, 0x30: (undocumented 0x30). -/
def execUndocumented30 (s : State) : Result := formMeaning config (.undocumented .u30) s

/-- R402, 0x38: (undocumented 0x38). -/
def execUndocumented38 (s : State) : Result := formMeaning config (.undocumented .u38) s

/-- R402, 0xCB: (undocumented 0xCB). -/
def execUndocumentedCB (s : State) : Result := formMeaning config (.undocumented .uCB) s

/-- R402, 0xD9: (undocumented 0xD9). -/
def execUndocumentedD9 (s : State) : Result := formMeaning config (.undocumented .uD9) s

/-- R402, 0xDD: (undocumented 0xDD). -/
def execUndocumentedDD (s : State) : Result := formMeaning config (.undocumented .uDD) s

/-- R402, 0xED: (undocumented 0xED). -/
def execUndocumentedED (s : State) : Result := formMeaning config (.undocumented .uED) s

/-- R402, 0xFD: (undocumented 0xFD). -/
def execUndocumentedFD (s : State) : Result := formMeaning config (.undocumented .uFD) s

end Sys2Proof.Machine
end

