-- ==== Sys2Proof/Machine/Step.lean ====
section
/-! DEFINITION. One step of the machine: one instruction (R401) with the scheduler around it (R416). -/

namespace Sys2Proof.Machine

/-- One step in any configuration, with its output: a new half-frame begins if the last one is over, one
instruction runs, and its cycles are counted, with the half-frame boundary when the budget is reached (R416). -/
def stepOutput (cfg : Config) (s : State) : StepResult :=
  match coreStep cfg (openStep cfg s) with
  | .next out => .next { out with cpu := closeStep cfg out.cycles out.cpu }
  | .fault r => .fault r
  | .refused r => .refused r

/-- The state after one step in any configuration. -/
def stepWith (cfg : Config) (s : State) : Host.Outcome State Fault Refusal :=
  match stepOutput cfg s with
  | .next out => .next out.cpu
  | .fault r => .fault r
  | .refused r => .refused r

/-- One step of this machine. The host's interface has no place for a step's cycles and events: `stepOutput` gives
them (assumption 1). -/
def step (s : State) : Host.Outcome State Fault Refusal := stepWith config s

/-- A state whose next step runs the instruction of a table word: its three bytes stand at PC, and the status is
`Running`, without which no step fetches (R46; assumption 8). -/
def State.withFetchWord (s : State) (nbits w : Nat) : State :=
  setStatus .running (writeBytes s.pc (tableBytes nbits w) s)

end Sys2Proof.Machine
end

