-- ==== Sys2Proof/WellFormed.lean ====
section
/-! DEFINITION. What makes an instruction, a flags-byte layout, a configuration and a ROM image well formed.
Operand bytes and words need no check: every value has a meaning (30_encoding.md R133). -/

namespace Sys2Proof

/-- A documented instruction: any row but the 12 undocumented bytes, which "spell no instruction in this core"
(R131). -/
def Instr.wellFormed (i : Instr) : Bool :=
  match formOf i with
  | .undocumented _ => false
  | _ => true

/-- A layout whose flags have five different places, and whose other bits leave those places 0, so that the
flags survive the round trip R40 asks for. -/
def PswLayout.wellFormed (lay : PswLayout) : Bool :=
  decide [lay.z, lay.s, lay.p, lay.cy, lay.ac].Nodup &&
    [lay.z, lay.s, lay.p, lay.cy, lay.ac].all fun i => !lay.fixed.getLsbD i

/-- Every opcode with a handler costs at least one cycle, without which the loop of R416 need not end
(assumption 9). -/
def Config.costsCycles (cfg : Config) : Bool :=
  (List.range 16).all fun row => (List.range 16).all fun col =>
    !cfg.implemented (BitVec.ofNat 8 (16 * row + col)) || decide (0 < cfg.cycles (BitVec.ofNat 8 (16 * row + col)))

/-- A configuration whose layout is well formed, whose half-frame is not empty, whose opcodes cost cycles, and which
gives no handler to an undocumented byte (R10, R132). -/
def Config.wellFormed (cfg : Config) : Bool :=
  cfg.pswLayout.wellFormed && decide (0 < cfg.halfFrameCycles) && cfg.costsCycles &&
    [Undoc.u08, .u10, .u18, .u20, .u28, .u30, .u38, .uCB, .uD9, .uDD, .uED, .uFD].all
      fun u => !cfg.implemented (undocByte u)

/-- A ROM image of at most 65,536 bytes (R451, U12). -/
def romWellFormed (rom : List Byte) : Bool := decide (rom.length ≤ 65536)

end Sys2Proof
end

