-- ==== Sys2Proof/Machine/HostInterface.lean ====
section
/-! DEFINITION. The host's side of the core: reset with a ROM image (70_reset_and_hazards.md R450, R451),
`RunHalfFrame` and `RunFrame` (60_exceptions.md R416, R420), and what the host may do between half-frames
(R421). -/

namespace Sys2Proof.Machine

/-- `Reset(rom)` (R450, R451): the image copied from address 0, every other byte 0; an image over 65,536 bytes is
refused (U12). -/
def resetWith (rom : List Byte) : Result :=
  if romWellFormed rom then .next (writeBytes 0 rom State.reset) else .refused .romTooLarge

/-- What `RunHalfFrame` returns (R416): the state, with the status, and the half-frame's events in step order
(R425). -/
structure HalfFrameOutput where
  cpu : State
  events : List PortEvent
  deriving DecidableEq, Repr

/-- The outcome of a half-frame or a frame. -/
abbrev HalfFrameResult := Host.Outcome HalfFrameOutput Fault Refusal

/-- The test of R416's loop: the half-frame goes on. -/
def inHalfFrame (cfg : Config) (s : State) : Bool :=
  decide (s.status = .running ∧ s.cycleCount < cfg.halfFrameCycles)

/-- The loop of R416: steps until the half-frame ends or the status is terminal, at most `fuel` of them, with the
events so far. -/
def runUntilBoundary (cfg : Config) : Nat → List PortEvent → State → HalfFrameResult
  | 0, events, s => .next { cpu := s, events := events }
  | fuel + 1, events, s =>
    match stepOutput cfg s with
    | .next out =>
      if inHalfFrame cfg out.cpu then runUntilBoundary cfg fuel (events ++ out.events) out.cpu
      else .next { cpu := out.cpu, events := events ++ out.events }
    | .fault r => .fault r
    | .refused r => .refused r

/-- `RunHalfFrame` (R416), in any configuration, as far as its first `bound` steps: `inHalfFrame` of the answer says
whether they leave it unfinished. With a budget of 0 no step runs and the boundary comes at once. In a terminal
status it is the fault of a step (R405; assumption 3). -/
def runHalfFrameFor (cfg : Config) (bound : Nat) (s : State) : HalfFrameResult :=
  match s.status with
  | .running =>
    if cfg.halfFrameCycles = 0 then .next { cpu := halfFrameBoundary (beginHalfFrame s), events := [] }
    else runUntilBoundary cfg bound [] (beginHalfFrame s)
  | st => .fault (.runEnded st)

/-- What `RunHalfFrame` returns, whatever the number of its steps (R416). No output is related to a state from which
the loop never ends (assumption 9). -/
def HalfFrameReturns (cfg : Config) (s : State) (out : HalfFrameOutput) : Prop :=
  ∃ bound, runHalfFrameFor cfg bound s = .next out ∧ inHalfFrame cfg out.cpu = false

/-- `RunHalfFrame` (R416) with as many steps as the budget has cycles. They finish it in a well-formed configuration,
where every `Continue` step costs at least one cycle (assumption 9). -/
def runHalfFrame (cfg : Config) (s : State) : HalfFrameResult := runHalfFrameFor cfg cfg.halfFrameCycles s

/-- `RunFrame` (R420), as far as the first `bound` steps of each half-frame: a second half-frame only if the first has
ended with the status still `Running`. R420 and D32 name no result of `RunFrame`. DESIGN CHOICE (assumption 19): it
answers the state after the frame and the events of both half-frames, the first's before the second's. -/
def runFrameFor (cfg : Config) (bound : Nat) (s : State) : HalfFrameResult :=
  match runHalfFrameFor cfg bound s with
  | .next first =>
    if first.cpu.status = .running ∧ cfg.halfFrameCycles ≤ first.cpu.cycleCount then
      match runHalfFrameFor cfg bound first.cpu with
      | .next second => .next { second with events := first.events ++ second.events }
      | .fault r => .fault r
      | .refused r => .refused r
    else .next first
  | .fault r => .fault r
  | .refused r => .refused r

/-- `RunFrame` (R420) of two `runHalfFrame`. -/
def runFrame (cfg : Config) (s : State) : HalfFrameResult := runFrameFor cfg cfg.halfFrameCycles s

/-- The states between two half-frames, where the host may act (R421): before the first step of a half-frame,
after its boundary, or after a terminal outcome, which ends it (R405; assumption 10). -/
def betweenHalfFrames (cfg : Config) (s : State) : Bool :=
  decide (s.status ≠ .running) || s.cycleCount == 0 || decide (cfg.halfFrameCycles ≤ s.cycleCount)

/-- What the host may write (R421). -/
inductive HostAction where
  | writeInputs (in1 in2 : Byte)
  | clearOut3
  | clearOut5
  deriving DecidableEq, Repr

/-- The effect of a host write on the latches (R44, R45, R106). -/
def hostLatches (act : HostAction) (x : Latches) : Latches :=
  match act with
  | .writeInputs in1 in2 => { x with in1 := in1, in2 := in2 }
  | .clearOut3 => { x with out3 := 0 }
  | .clearOut5 => { x with out5 := 0 }

/-- A host write: only between half-frames, refused otherwise (R421, U14). -/
def hostWrite (cfg : Config) (act : HostAction) (s : State) : Result :=
  if betweenHalfFrames cfg s then .next { s with latches := hostLatches act s.latches }
  else .refused .hostDuringHalfFrame

/-- The frame buffer the host may read between half-frames (R107): the 7,168 bytes from 0x2400 to 0x3FFF. -/
def hostReadVideo (cfg : Config) (s : State) : Except Refusal (List Byte) :=
  if betweenHalfFrames cfg s then .ok ((List.range 0x1C00).map fun k => readByte (BitVec.ofNat 16 (0x2400 + k)) s)
  else .error .hostDuringHalfFrame

/-- The last bytes written to the sound ports, which the host may read between half-frames (R45, R421). -/
def hostReadSound (cfg : Config) (s : State) : Except Refusal (Byte × Byte) :=
  if betweenHalfFrames cfg s then .ok (s.latches.out3, s.latches.out5) else .error .hostDuringHalfFrame

end Sys2Proof.Machine
end

