-- ==== Sys2Proof/Safety.lean ====
section
/-! DEFINITION. The terms claims are stated in: the invariant and the reachable states, what each instruction may
write by the spec's rules, the field codes of the encodings, and the outcome of each shape of instruction. -/

namespace Sys2Proof.Machine

/-! ## The invariant and the reachable states -/

/-- What a terminal status says of the instruction that ended the run: HLT stands just before PC (R404), the
unimplemented byte stands at PC (R402), the OUT and its port stand at PC (R403). -/
def stopExplained (s : State) : Prop :=
  match s.status with
  | .running => True
  | .halted => readByte (s.pc - 1) s = 0x76
  | .unimplemented op => readByte s.pc s = op ∧ config.implemented op = false
  | .unimplementedPort p =>
    readByte s.pc s = 0xD3 ∧ readByte (s.pc + 1) s = p ∧ p.toNat ∉ [2, 3, 4, 5, 6]

/-- The invariant: memory is canonical (assumption 6) and inside 64 KiB (R80), the count is at most 17 over the
default budget, as R417 says of the default cycle table (assumption 4), and a terminal status is explained by the
instruction in memory (R402 to R404). -/
structure State.Inv (s : State) : Prop where
  memory : Memory.wf s.mem = true
  budget : s.cycleCount ≤ 16684
  stopped : stopExplained s

/-- The states of the machine's runs: reset with any ROM image, steps, and host writes between half-frames
(assumption 16). -/
inductive Reachable : State → Prop where
  | reset (rom : List Byte) (s : State) (h : resetWith rom = .next s) : Reachable s
  | step (s t : State) (hs : Reachable s) (h : step s = .next t) : Reachable t
  | host (act : HostAction) (s t : State) (hs : Reachable s) (h : hostWrite config act s = .next t) : Reachable t

/-! ## What each instruction may write -/

/-- The five flags by name (R38). -/
inductive Flag where
  | z | s | p | cy | ac
  deriving DecidableEq, Repr

/-- The value of a flag. -/
def flagOf (x : Flag) (f : Flags) : Bool :=
  match x with
  | .z => f.z
  | .s => f.s
  | .p => f.p
  | .cy => f.cy
  | .ac => f.ac

/-- R57's table: whether an instruction writes a flag. The last three lines are the table's row "all others". -/
def writesFlag (f : Form) (x : Flag) : Bool :=
  match f with
  | .alu _ _ | .aluImm _ _ | .daa | .popPsw => true
  | .inr _ | .dcr _ => decide (x ≠ .cy)
  | .dad _ | .rlc | .rrc | .ral | .rar | .stc | .cmc => decide (x = .cy)
  | .nop | .movRR _ _ | .movRM _ | .movMR _ | .mvi _ _ | .lxi _ _ | .lda _ | .sta _ | .lhld _ | .shld _ => false
  | .ldax _ | .stax _ | .xchg | .inx _ | .dcx _ | .cma | .jmp _ | .jcc _ _ | .call _ | .ccc _ _ | .ret => false
  | .rcc _ | .rst _ | .pchl | .push _ | .pushPsw | .pop _ | .xthl | .sphl | .inPort _ | .outPort _ => false
  | .ei | .di | .hlt | .undocumented _ => false

/-- The register a register field names; none for M. -/
def opndRegs : Opnd → List Reg
  | .reg r => [r]
  | .m => []

/-- The registers a pair field names; none for SP. -/
def rpRegs : Rp → List Reg
  | .pair p => [pairHigh p, pairLow p]
  | .sp => []

/-- The general registers an instruction's rule writes. -/
def destRegs (f : Form) : List Reg :=
  match f with
  | .movRR dst _ | .movRM dst => [dst]
  | .mvi o _ | .inr o | .dcr o => opndRegs o
  | .lxi rp _ | .inx rp | .dcx rp => rpRegs rp
  | .pop p => [pairHigh p, pairLow p]
  | .lda _ | .ldax _ | .daa | .rlc | .rrc | .ral | .rar | .cma | .popPsw | .inPort _ => [.a]
  | .alu k _ | .aluImm k _ => if k = .cmp then [] else [.a]
  | .lhld _ | .dad _ | .xthl => [.h, .l]
  | .xchg => [.d, .e, .h, .l]
  | .nop | .movMR _ | .sta _ | .shld _ | .stax _ | .cmc | .stc | .jmp _ | .jcc _ _ | .call _ | .ccc _ _ => []
  | .ret | .rcc _ | .rst _ | .pchl | .push _ | .pushPsw | .sphl | .outPort _ | .ei | .di | .hlt => []
  | .undocumented _ => []

/-- Whether an instruction's rule may write SP (R35). -/
def writesSp (f : Form) : Bool :=
  match f with
  | .lxi rp _ | .inx rp | .dcx rp => decide (rp = .sp)
  | .sphl | .call _ | .ccc _ _ | .rst _ | .ret | .rcc _ | .push _ | .pushPsw | .pop _ | .popPsw => true
  | .nop | .movRR _ _ | .movRM _ | .movMR _ | .mvi _ _ | .lda _ | .sta _ | .lhld _ | .shld _ => false
  | .ldax _ | .stax _ | .xchg | .alu _ _ | .aluImm _ _ | .inr _ | .dcr _ | .dad _ | .daa => false
  | .rlc | .rrc | .ral | .rar | .cma | .cmc | .stc | .jmp _ | .jcc _ _ | .pchl | .xthl => false
  | .inPort _ | .outPort _ | .ei | .di | .hlt | .undocumented _ => false

/-- The address a register field stores to; none for a register. -/
def opndAddrs (o : Opnd) (s : State) : List Word :=
  match o with
  | .reg _ => []
  | .m => [getPair .hl s]

/-- The addresses an instruction stores to in a state, by its rule. -/
def storedAddrs (f : Form) (s : State) : List Word :=
  match f with
  | .movMR _ => [getPair .hl s]
  | .mvi o _ | .inr o | .dcr o => opndAddrs o s
  | .sta a => [a]
  | .shld a => [a, a + 1]
  | .stax p => [getPair (idxPair p) s]
  | .call _ | .rst _ | .push _ | .pushPsw => [s.sp - 2, s.sp - 1]
  | .ccc cond _ => if condHolds cond s.flags then [s.sp - 2, s.sp - 1] else []
  | .xthl => [s.sp, s.sp + 1]
  | .nop | .movRR _ _ | .movRM _ | .lxi _ _ | .lda _ | .lhld _ | .ldax _ | .xchg | .alu _ _ => []
  | .aluImm _ _ | .inx _ | .dcx _ | .dad _ | .daa | .rlc | .rrc | .ral | .rar | .cma | .cmc | .stc => []
  | .jmp _ | .jcc _ _ | .ret | .rcc _ | .pchl | .pop _ | .popPsw | .sphl | .inPort _ | .outPort _ => []
  | .ei | .di | .hlt | .undocumented _ => []

/-- Memory reads the same at every address. -/
def SameMemory (s t : State) : Prop := ∀ a, readByte a t = readByte a s

/-- Memory reads the same outside the addresses listed. -/
def SameMemoryOutside (addrs : List Word) (s t : State) : Prop :=
  ∀ a, a ∉ addrs → readByte a t = readByte a s

/-! ## The field codes of the encodings -/

/-- `ddd`, `sss` of a register (R124). -/
def regCode : Reg → BitVec 3
  | .b => 0 | .c => 1 | .d => 2 | .e => 3 | .h => 4 | .l => 5 | .a => 7

/-- `ddd`, `sss` of a register or M (R124). -/
def opndCode : Opnd → BitVec 3
  | .reg r => regCode r
  | .m => 6

/-- `pp` of a pair (R125, R126). -/
def pairCode : Pair → BitVec 2
  | .bc => 0 | .de => 1 | .hl => 2

/-- `pp` of a pair or SP (R125). -/
def rpCode : Rp → BitVec 2
  | .pair p => pairCode p
  | .sp => 3

/-- `ccc` (R127). -/
def condCode : Cond → BitVec 3
  | .nz => 0 | .z => 1 | .nc => 2 | .c => 3 | .po => 4 | .pe => 5 | .p => 6 | .m => 7

/-- `aaa` (R128). -/
def aluCode : AluOp → BitVec 3
  | .add => 0 | .adc => 1 | .sub => 2 | .sbb => 3 | .ana => 4 | .xra => 5 | .ora => 6 | .cmp => 7

/-- An opcode byte from its bits 7:6, 5:3 and 2:0. -/
def byte233 (hi : BitVec 2) (mid lo : BitVec 3) : Byte := hi ++ mid ++ lo

/-- An opcode byte from its bits 7:6, 5:4 and 3:0. -/
def byte224 (hi mid : BitVec 2) (lo : BitVec 4) : Byte := hi ++ mid ++ lo

/-- The cost of each shape of instruction, by the summary sentence of R459; for a conditional call or return the
cost when the condition is false. -/
def summaryCycles : Form → Nat
  | .movRR _ _ => 5
  | .movRM _ | .movMR _ | .hlt => 7
  | .alu _ (.reg _) => 4
  | .alu _ .m | .aluImm _ _ => 7
  | .mvi (.reg _) _ => 7
  | .mvi .m _ => 10
  | .lxi _ _ => 10
  | .inx _ | .dcx _ => 5
  | .dad _ => 10
  | .inr (.reg _) | .dcr (.reg _) => 5
  | .inr .m | .dcr .m => 10
  | .lda _ | .sta _ => 13
  | .lhld _ | .shld _ => 16
  | .ldax _ | .stax _ => 7
  | .jmp _ | .jcc _ _ => 10
  | .call _ => 17
  | .ccc _ _ => 11
  | .ret => 10
  | .rcc _ => 5
  | .rst _ => 11
  | .push _ | .pushPsw => 11
  | .pop _ | .popPsw => 10
  | .xthl => 18
  | .xchg => 4
  | .sphl | .pchl => 5
  | .inPort _ | .outPort _ => 10
  | .ei | .di | .nop | .rlc | .rrc | .ral | .rar | .cma | .cmc | .stc | .daa => 4
  | .undocumented _ => 0

/-! ## The outcome of each shape of instruction -/

/-- Whether a byte has an even number of 1 bits, counted over its eight bits (R52). -/
def evenOnes (v : Byte) : Bool := ((List.range 8).countP fun i => v.getLsbD i) % 2 == 0

/-- Z, S and P are those of the byte `v` (R50 to R52, R56). -/
def ZspOf (v : Byte) (f : Flags) : Prop :=
  f.z = decide (v = 0) ∧ f.s = v.getLsbD 7 ∧ f.p = evenOnes v

/-- `t` differs from `s` only in register `r`, which holds `v`, and in PC, which is `len` further. -/
def LoadsReg (r : Reg) (v : Byte) (len : Word) (s t : State) : Prop :=
  getReg r t = v ∧ (∀ q, q ≠ r → getReg q t = getReg q s) ∧ t = { s with regs := t.regs, pc := s.pc + len }

/-- `t` differs from `s` only in pair `p`, which holds `w`, and in PC, which is `len` further. -/
def LoadsPair (p : Pair) (w : Word) (len : Word) (s t : State) : Prop :=
  getPair p t = w ∧ (∀ q, q ≠ pairHigh p → q ≠ pairLow p → getReg q t = getReg q s) ∧
    t = { s with regs := t.regs, pc := s.pc + len }

/-- `t` differs from `s` only in what a pair field names, which holds `w`, and in PC, which is `len` further. -/
def LoadsRp (rp : Rp) (w : Word) (len : Word) (s t : State) : Prop :=
  match rp with
  | .pair p => LoadsPair p w len s t
  | .sp => t = { s with sp := w, pc := s.pc + len }

/-- `t` differs from `s` only in the byte at `addr`, which reads `v`, and in PC, which is `len` further. -/
def StoresByte (addr : Word) (v : Byte) (len : Word) (s t : State) : Prop :=
  readByte addr t = v ∧ SameMemoryOutside [addr] s t ∧ t = { s with mem := t.mem, pc := s.pc + len }

/-- `t` differs from `s` only in A, the flags and PC: A holds `a`, Z, S and P are those of `res`, CY is `cy`, AC
is 0 as the literal mode of R55 gives, and PC is `len` further. -/
def AccOutcome (a res : Byte) (cy : Bool) (len : Word) (s t : State) : Prop :=
  t.regs.a = a ∧ ZspOf res t.flags ∧ t.flags.cy = cy ∧ t.flags.ac = false ∧
    t = { s with regs := { s.regs with a := t.regs.a }, flags := t.flags, pc := s.pc + len }

/-- The flags of INR and DCR for the result `res`: CY is kept (R57), AC is 0 as the literal mode of R55 gives. -/
def StepFlags (res : Byte) (s t : State) : Prop :=
  ZspOf res t.flags ∧ t.flags.cy = s.flags.cy ∧ t.flags.ac = false

/-- `t` differs from `s` only in A, which holds `a`, in CY, which is `cy`, and in PC, which is 1 further. -/
def RotateOutcome (a : Byte) (cy : Bool) (s t : State) : Prop :=
  t = { s with regs := { s.regs with a := a }, flags := { s.flags with cy := cy }, pc := s.pc + 1 }

/-- Running one instruction's meaning several times. -/
def repeatExec (i : Instr) : Nat → State → Result
  | 0, s => .next s
  | n + 1, s =>
    match exec i s with
    | .next t => repeatExec i n t
    | .fault r => .fault r
    | .refused r => .refused r

/-- The stack holds `w` below the old SP (R94): SP is 2 lower, the low byte stands at the new SP, the high byte
above it, and memory is otherwise the same. -/
def Pushed (w : Word) (s t : State) : Prop :=
  t.sp = s.sp - 2 ∧ readByte (s.sp - 2) t = lo8 w ∧ readByte (s.sp - 1) t = hi8 w ∧
    SameMemoryOutside [s.sp - 2, s.sp - 1] s t

end Sys2Proof.Machine
end

