-- ==== Sys2Proof/Certificates/Slice0/Obligations.lean ====
section
/-! DEFINITION. The statements for the provers. `instrOf f` is the row of the opcode table that the form `f` is;
a statement over all registers, conditions or operands of a form covers every row of that form. -/

open Sys2Proof Sys2Proof.Machine

/-! ## Encoding -/

/-- Every instruction's bytes decode to it, with every operand at every value, whatever follows. -/
def Obligations.EncodeThenDecodeReturnsInstruction : Prop :=
  ∀ (i : Instr) (rest : List Byte), decode (encode i ++ rest) = .ok (i, rest)

/-- Every instruction is read from its own bytes only: encoding what was decoded gives back the bytes its length
covers. -/
def Obligations.DecodeThenEncodeReturnsBytes : Prop :=
  ∀ op b1 b2 : Byte, encode (decodeInstr op b1 b2) = [op, b1, b2].take (lengthOf op)

/-- R120: one opcode byte and 0, 1 or 2 operand bytes, the length fixed by the opcode alone. -/
def Obligations.LengthFixedByOpcode : Prop :=
  (∀ i : Instr, (encode i).length = lengthOf (opcodeOf i)) ∧
    (∀ op : Byte, lengthOf op = 1 ∨ lengthOf op = 2 ∨ lengthOf op = 3) ∧
    (∀ (op b1 b2 : Byte) (rest : List Byte),
      decode (op :: b1 :: b2 :: rest) = .ok (decodeInstr op b1 b2, (b1 :: b2 :: rest).drop (lengthOf op - 1)))

/-- R134: every byte is documented or one of the 12 undocumented bytes, never both. -/
def Obligations.EveryByteDocumentedOrUndocumented : Prop :=
  ∀ op b1 b2 : Byte,
    ((decodeInstr op b1 b2).wellFormed = false ↔
      op ∈ ([0x08, 0x10, 0x18, 0x20, 0x28, 0x30, 0x38, 0xCB, 0xD9, 0xDD, 0xED, 0xFD] : List Byte)) ∧
    opcodeOf (decodeInstr op b1 b2) = op ∧
    config.implemented op = (decodeInstr op b1 b2).wellFormed

/-- Words written out from the encodings of the spec decode to the instructions they stand for. A sanity check. -/
def Obligations.SpecWordsDecode : Prop :=
  decode [0b01000001] = .ok (.movBC, []) ∧ decode [0b00111110, 0x05] = .ok (.mviA 0x05, []) ∧
    decode [0b10000000] = .ok (.addB, []) ∧ decode [0b11000010, 0x00, 0x02] = .ok (.jnz 0x0200, []) ∧
    decode [0b11100011] = .ok (.xthl, []) ∧ decode [0b11010011, 0x04] = .ok (.outPort 4, []) ∧
    decode [0b11001111] = .ok (.rst1, []) ∧ decode [0b01110110] = .ok (.hlt, []) ∧
    decode [0b00100111] = .ok (.daa, [])

/-! ## The step, the scheduler and the interrupt -/

/-- A step runs the decoded instruction: when the bytes at PC spell an instruction `i` and the status is `Running`,
the machine's step is `exec i` with the scheduler around it (assumption 2), if `i` is documented. In every
configuration with a handler for `i`, the core's step is the configuration's meaning of `i` with its cycles and
events, and the step is that with the scheduler around it. `exec` is the meaning in this machine's configuration. -/
def Obligations.StepRunsDecodedInstruction : Prop :=
  ∀ (s : State) (i : Instr) (rest : List Byte), s.status = .running →
    decode [readByte s.pc s, readByte (s.pc + 1) s, readByte (s.pc + 2) s] = .ok (i, rest) →
    (∀ t, i.wellFormed = true → exec i (openStep config s) = .next t →
      step s = .next (closeStep config (opCost config (opcodeOf i) s.flags) t)) ∧
    (∀ (cfg : Config) (t : State), cfg.implemented (opcodeOf i) = true →
      (execWith cfg i s = .next t →
        coreStep cfg s = .next
          { cpu := t, cycles := reportedCycles cfg (opcodeOf i) s.flags t.status, events := execEvents i s }) ∧
      (execWith cfg i (openStep cfg s) = .next t →
        stepWith cfg s = .next (closeStep cfg (opCost cfg (opcodeOf i) s.flags) t))) ∧
    exec i s = execWith config i s

/-- R402: a byte at PC without a handler ends the run, in every configuration; only the status changes, to the
offending byte, PC still addresses it, and the step reports no cycles and no events. So do the 12 undocumented bytes
in this machine, and the meaning of each undocumented row. -/
def Obligations.UndocumentedByteStopsTheRun : Prop :=
  (∀ (cfg : Config) (s : State), s.status = .running → cfg.implemented (readByte s.pc s) = false →
    coreStep cfg s = .next
      { cpu := { s with status := .unimplemented (readByte s.pc s) }, cycles := 0, events := [] } ∧
    stepWith cfg s = .next { openStep cfg s with status := .unimplemented (readByte s.pc s) }) ∧
  (∀ s : State, s.status = .running →
    readByte s.pc s ∈ ([0x08, 0x10, 0x18, 0x20, 0x28, 0x30, 0x38, 0xCB, 0xD9, 0xDD, 0xED, 0xFD] : List Byte) →
    step s = .next { openStep config s with status := .unimplemented (readByte s.pc s) }) ∧
  (∀ (u : Undoc) (s : State),
    exec (instrOf (.undocumented u)) s = .next { s with status := .unimplemented (opcodeOf (instrOf (.undocumented u))) })

/-- A terminal outcome is final, in every configuration: the step that reaches it counts no cycles and takes no
interrupt, whatever the count and INTE, and no step happens after it. That the model's step is then the fault
`runEnded` is the model's choice (assumption 3). -/
def Obligations.TerminalOutcomesAreFinal : Prop :=
  (∀ s : State, s.status ≠ .running → step s = .fault (.runEnded s.status) ∧
    ∀ cfg : Config, stepWith cfg s = .fault (.runEnded s.status) ∧ coreStep cfg s = .fault (.runEnded s.status)) ∧
  (∀ (cfg : Config) (s : State) (out : StepOutput), s.cycleCount < cfg.halfFrameCycles →
    coreStep cfg s = .next out → out.cpu.status ≠ .running → stepWith cfg s = .next out.cpu)

/-- R406: no instruction traps. Every instruction answers a next state in every state, and so does every step
from a running state, in this machine and in every configuration. -/
def Obligations.NoInstructionTraps : Prop :=
  (∀ (i : Instr) (s : State), ∃ t, exec i s = .next t) ∧
    (∀ s : State, s.status = .running → ∃ t, step s = .next t) ∧
    (∀ (cfg : Config) (i : Instr) (s : State), ∃ t, execWith cfg i s = .next t) ∧
    (∀ (cfg : Config) (s : State), s.status = .running → ∃ t, stepWith cfg s = .next t)

/-- R400 to R404: in every well-formed configuration, a step's outcome is `Halted` for HLT only, `Unimplemented(op)`
for a byte without a handler only, `UnimplementedPort(p)` for OUT to a port outside 2 to 6 only. HLT leaves PC one
further and the status, and reports its cycles; the other two change only the status and report none; every other
step continues and reports its cost. -/
def Obligations.StepOutcomes : Prop :=
  ∀ (cfg : Config) (s : State) (out : StepOutput), cfg.wellFormed = true → coreStep cfg s = .next out →
    (out.cpu.status = .halted ↔ readByte s.pc s = 0x76 ∧ cfg.implemented 0x76 = true) ∧
    (∀ op, out.cpu.status = .unimplemented op ↔ readByte s.pc s = op ∧ cfg.implemented op = false) ∧
    (∀ p, out.cpu.status = .unimplementedPort p ↔
      readByte s.pc s = 0xD3 ∧ cfg.implemented 0xD3 = true ∧ readByte (s.pc + 1) s = p ∧
        p.toNat ∉ [2, 3, 4, 5, 6]) ∧
    (out.cpu.status = .halted →
      out = { cpu := { s with pc := s.pc + 1, status := .halted }, cycles := cfg.cycles 0x76, events := [] }) ∧
    ((∃ op, out.cpu.status = .unimplemented op) ∨ (∃ p, out.cpu.status = .unimplementedPort p) →
      out = { cpu := { s with status := out.cpu.status }, cycles := 0, events := [] }) ∧
    (out.cpu.status = .running → out.cycles = opCost cfg (readByte s.pc s) s.flags)

/-- Within a half-frame, a step that continues adds its cost to the count and does nothing more; after a boundary
the next step begins a half-frame with the count at 0 (assumption 2). In every configuration. -/
def Obligations.CyclesAreCounted : Prop :=
  (∀ (cfg : Config) (s : State) (out : StepOutput), coreStep cfg s = .next out → out.cpu.status = .running →
    s.cycleCount + opCost cfg (readByte s.pc s) s.flags < cfg.halfFrameCycles →
    stepWith cfg s = .next { out.cpu with cycleCount := s.cycleCount + opCost cfg (readByte s.pc s) s.flags }) ∧
  (∀ (cfg : Config) (s : State), cfg.halfFrameCycles ≤ s.cycleCount →
    stepWith cfg s = stepWith cfg { s with cycleCount := 0 })

/-- R410: at a boundary with INTE set, the interrupt is entered after the step: PC is pushed, PC becomes the
vector of the half-frame that ends, INTE is cleared, and no register, flag or latch changes; the phase toggles. In
every configuration. -/
def Obligations.BoundaryEntersInterrupt : Prop :=
  ∀ (cfg : Config) (s : State) (out : StepOutput) (t : State), s.cycleCount < cfg.halfFrameCycles →
    coreStep cfg s = .next out → t = out.cpu → t.status = .running →
    cfg.halfFrameCycles ≤ s.cycleCount + opCost cfg (readByte s.pc s) s.flags → t.inte = true →
    ∃ u, stepWith cfg s = .next u ∧ Pushed t.pc t u ∧
      u = { t with
        mem := u.mem, sp := u.sp, inte := false,
        pc := (match t.phase with | .top => 0x0008 | .bottom => 0x0010),
        phase := (match t.phase with | .top => .bottom | .bottom => .top),
        cycleCount := s.cycleCount + opCost cfg (readByte s.pc s) s.flags }

/-- R409: at a boundary with INTE clear the request is dropped: only the count and the phase change. In every
configuration. -/
def Obligations.BoundaryDropsRequest : Prop :=
  ∀ (cfg : Config) (s : State) (out : StepOutput) (t : State), s.cycleCount < cfg.halfFrameCycles →
    coreStep cfg s = .next out → t = out.cpu → t.status = .running →
    cfg.halfFrameCycles ≤ s.cycleCount + opCost cfg (readByte s.pc s) s.flags → t.inte = false →
    stepWith cfg s = .next { t with
      phase := (match t.phase with | .top => .bottom | .bottom => .top),
      cycleCount := s.cycleCount + opCost cfg (readByte s.pc s) s.flags }

/-- R416 and R417: in every configuration and from every running state a half-frame answers, its events come from
ports 3 and 5 only (R105), and what it returns does not depend on the bound given to its loop; with a budget of 0 it
is the boundary alone. In every well-formed configuration it ends, either with a terminal status or with its budget
spent. In this machine it spends between 16667 and 16667 + 17 cycles, of which 10 for each event. The loop's bound
and the well-formedness it asks for are the model's (assumption 9). -/
def Obligations.HalfFrameSpendsItsBudget : Prop :=
  (∀ (cfg : Config) (bound : Nat) (s : State), s.status = .running →
    ∃ out, runHalfFrameFor cfg bound s = .next out ∧ ∀ e ∈ out.events, e.port = 3 ∨ e.port = 5) ∧
  (∀ (cfg : Config) (s : State) (out out' : HalfFrameOutput), HalfFrameReturns cfg s out →
    HalfFrameReturns cfg s out' → out = out') ∧
  (∀ (cfg : Config) (s : State), s.status = .running → cfg.halfFrameCycles = 0 →
    runHalfFrame cfg s = .next { cpu := halfFrameBoundary { s with cycleCount := 0 }, events := [] }) ∧
  (∀ (cfg : Config) (s : State), cfg.wellFormed = true → s.status = .running →
    ∃ out, runHalfFrame cfg s = .next out ∧ HalfFrameReturns cfg s out ∧
      (out.cpu.status ≠ .running ∨ cfg.halfFrameCycles ≤ out.cpu.cycleCount)) ∧
  (∀ s : State, s.status = .running →
    ∃ out, runHalfFrame config s = .next out ∧
      (out.cpu.status ≠ .running ∨ (16667 ≤ out.cpu.cycleCount ∧ out.cpu.cycleCount ≤ 16667 + 17)) ∧
      10 * out.events.length ≤ out.cpu.cycleCount)

/-- R419 and R420: a completed half-frame toggles the phase, whether or not an interrupt was taken, and one that a
terminal outcome ends leaves it; a frame is a half-frame followed, if the status is still `Running`, by a second
one, so it ends in the phase it began in. That a frame answers the events of both is the model's choice
(assumption 19). -/
def Obligations.PhaseAlternatesByHalfFrame : Prop :=
  (∀ (cfg : Config) (s : State) (out : HalfFrameOutput), HalfFrameReturns cfg s out →
    out.cpu.phase = (if out.cpu.status = .running then otherPhase s.phase else s.phase)) ∧
  (∀ (cfg : Config) (bound : Nat) (s : State) (out : HalfFrameOutput), runHalfFrameFor cfg bound s = .next out →
    (out.cpu.status ≠ .running → runFrameFor cfg bound s = .next out) ∧
    (∀ second, out.cpu.status = .running → cfg.halfFrameCycles ≤ out.cpu.cycleCount →
      runHalfFrameFor cfg bound out.cpu = .next second →
      runFrameFor cfg bound s = .next { cpu := second.cpu, events := out.events ++ second.events })) ∧
  (∀ (cfg : Config) (s : State), cfg.wellFormed = true → s.status = .running →
    ∃ out, runFrame cfg s = .next out ∧
      (out.cpu.status ≠ .running ∨ (out.cpu.phase = s.phase ∧ cfg.halfFrameCycles ≤ out.cpu.cycleCount)))

/-- Every step keeps the invariant: memory inside 64 KiB, the bound on the count, and a terminal status explained by
the bytes at PC. The canonical form of memory is the model's (assumption 6), and the bound rests on the default
budget and cycle table (assumption 4). -/
def Obligations.EveryStepKeepsInvariant : Prop :=
  ∀ s t : State, s.Inv → step s = .next t → t.Inv

/-- The invariant holds at reset (assumptions 4 and 6 as for EveryStepKeepsInvariant). -/
def Obligations.InvariantAtReset : Prop := State.reset.Inv

/-- Every state of every run, with any ROM image and any host writes, meets the invariant. What a run is rests on
assumptions 2 and 16, the invariant on assumptions 4 and 6. -/
def Obligations.ReachableStatesMeetInvariant : Prop := ∀ s : State, Reachable s → s.Inv

/-- R418 and R460: in every configuration a step costs `CYCLES[op]`, and a taken conditional call or return costs
`TAKEN_EXTRA` more and nothing else does. In this machine the costs are those of R459's summary and the extra is 6
(assumption 4); the 0 of an undocumented byte is the model's (assumption 13). -/
def Obligations.TakenCallsAndReturnsCostMore : Prop :=
  (∀ (cfg : Config) (i : Instr) (f : Flags), opCost cfg (opcodeOf i) f =
    cfg.cycles (opcodeOf i) +
      (match formOf i with
      | .ccc cond _ => if condHolds cond f then cfg.takenExtra else 0
      | .rcc cond => if condHolds cond f then cfg.takenExtra else 0
      | _ => 0)) ∧
  (∀ (i : Instr) (f : Flags), opCost config (opcodeOf i) f =
    summaryCycles (formOf i) +
      (match formOf i with
      | .ccc cond _ => if condHolds cond f then 6 else 0
      | .rcc cond => if condHolds cond f then 6 else 0
      | _ => 0))

/-! ## Memory, stack and register views -/

/-- R81 and R82: a read gives the byte last stored at its address, an instruction fetch included, and a store leaves
every other address alone. The canonical form, which is the model's (assumption 6), is kept. -/
def Obligations.StoreThenLoad : Prop :=
  ∀ (a b : Word) (v : Byte) (s : State),
    readByte b (writeByte a v s) = (if b = a then v else readByte b s) ∧
      (s.pc = a → fetchOpcode (writeByte a v s) = v) ∧
      (Memory.wf s.mem = true → Memory.wf (writeByte a v s).mem = true)

/-- R84 and R85: words are little-endian, and the second address wraps. -/
def Obligations.WordsAreLittleEndian : Prop :=
  ∀ (a w : Word) (s : State),
    (readWord a s).toNat = (readByte (a + 1) s).toNat * 256 + (readByte a s).toNat ∧
    (readByte a (writeWord a w s)).toNat = w.toNat % 256 ∧
    (readByte (a + 1) (writeWord a w s)).toNat = w.toNat / 256 ∧
    SameMemoryOutside [a, a + 1] s (writeWord a w s)

/-- R94 and R95: Push stores the high byte at SP - 1 and the low byte at SP - 2 and lowers SP by 2; Pop reads the
low byte at SP and the high byte above it and raises SP by 2. -/
def Obligations.StackHelpers : Prop :=
  (∀ (w : Word) (s : State), Pushed w s (push w s) ∧ push w s = { s with mem := (push w s).mem, sp := s.sp - 2 }) ∧
  (∀ s : State, (topWord s).toNat = (readByte (s.sp + 1) s).toNat * 256 + (readByte s.sp s).toNat ∧
    dropWord s = { s with sp := s.sp + 2 })

/-- PUSH then POP of the same pair restores the pair and SP; PUSH PSW then POP PSW restores A, the flags and
SP. -/
def Obligations.PushThenPopRestores : Prop :=
  (∀ (p : Pair) (s t u : State), exec (instrOf (.push p)) s = .next t → exec (instrOf (.pop p)) t = .next u →
    u.regs = s.regs ∧ u.flags = s.flags ∧ u.sp = s.sp) ∧
  (∀ s t u : State, exec .pushPSW s = .next t → exec .popPSW t = .next u →
    u.regs = s.regs ∧ u.flags = s.flags ∧ u.sp = s.sp)

/-- CALL then RET returns to the instruction after the CALL with SP restored, and RET after an interrupt entry
returns to the interrupted instruction, with INTE still clear. -/
def Obligations.CallThenReturnRestores : Prop :=
  (∀ (a : Word) (s t u : State), exec (.call a) s = .next t → exec .ret t = .next u →
    u.pc = s.pc + 3 ∧ u.sp = s.sp ∧ u.regs = s.regs) ∧
  (∀ (n : Nat) (s u : State), exec .ret (takeInterrupt n s) = .next u →
    u.pc = s.pc ∧ u.sp = s.sp ∧ u.regs = s.regs ∧ u.flags = s.flags ∧ u.inte = false)

/-- R33 and R34: BC is {B, C}, DE is {D, E}, HL is {H, L}; the high register of a pair is its bits 15 to 8, and a
pair write sets both registers and nothing else. A pair field reads its pair, or SP (R125). -/
def Obligations.PairsJoinTwoRegisters : Prop :=
  ∀ (w : Word) (s : State),
    ((getPair .bc s).toNat = s.regs.b.toNat * 256 + s.regs.c.toNat ∧
      (getPair .de s).toNat = s.regs.d.toNat * 256 + s.regs.e.toNat ∧
      (getPair .hl s).toNat = s.regs.h.toNat * 256 + s.regs.l.toNat) ∧
    (setPair .bc w s = { s with regs := { s.regs with b := hi8 w, c := lo8 w } } ∧
      setPair .de w s = { s with regs := { s.regs with d := hi8 w, e := lo8 w } } ∧
      setPair .hl w s = { s with regs := { s.regs with h := hi8 w, l := lo8 w } }) ∧
    ((hi8 w).toNat = w.toNat / 256 ∧ (lo8 w).toNat = w.toNat % 256) ∧
    (readRp .sp s = s.sp ∧ ∀ p, readRp (.pair p) s = getPair p s) ∧
    (∀ p : Pair,
      (getPair p s).toNat = (getReg (pairHigh p) s).toNat * 256 + (getReg (pairLow p) s).toNat ∧
      (getReg (pairHigh p) (setPair p w s)).toNat = w.toNat / 256 ∧
      (getReg (pairLow p) (setPair p w s)).toNat = w.toNat % 256 ∧
      (∀ r, r ≠ pairHigh p → r ≠ pairLow p → getReg r (setPair p w s) = getReg r s))

/-! ## Flags -/

/-- R50 to R54: the flag functions. -/
def Obligations.FlagFunctions : Prop :=
  (∀ v : Nat, (flagZero v = true ↔ v % 256 = 0) ∧ (flagSign v = true ↔ 128 ≤ v % 256) ∧
    flagParity v = evenOnes (BitVec.ofNat 8 v) ∧ (carryAdd v = true ↔ 255 < v)) ∧
  (∀ (a b : Byte) (c : Bool), carrySub a b c = true ↔ a.toNat < b.toNat + (if c then 1 else 0))

/-- R55: in the literal mode the rule gives 0 for every result, in the nibble mode it gives the instruction's
clause; the mode reaches no other piece of state, in any instruction: two configurations that agree on the flags
byte and on port 0 differ in the AC flag alone; and under this machine's literal mode AC becomes 1 only by POP
PSW. -/
def Obligations.AuxCarryByMode : Prop :=
  (∀ (cfg : Config) (v : Nat) (n : Bool), cfg.acMode = .literal → auxCarry cfg v n = false) ∧
    (∀ (cfg : Config) (v : Nat) (n : Bool), cfg.acMode = .nibble → auxCarry cfg v n = n) ∧
    (∀ (cfg cfg' : Config) (i : Instr) (s t u : State), cfg.pswLayout = cfg'.pswLayout →
      cfg.port0Value = cfg'.port0Value → execWith cfg i s = .next t → execWith cfg' i s = .next u →
      u = { t with flags := { t.flags with ac := u.flags.ac } }) ∧
    config.acMode = .literal ∧
    (∀ (i : Instr) (s t : State), exec i s = .next t → t.flags.ac = true → s.flags.ac = true ∨ i = .popPSW)

/-- R201 and R202: the 8-bit addition and subtraction, in every configuration. -/
def Obligations.AddAndSubtractAlgebra : Prop :=
  ∀ (cfg : Config) (a b : Byte) (c : Bool) (f : Flags),
    ((add8 cfg a b c f).1.toNat = (a.toNat + b.toNat + bit c) % 256 ∧
      ZspOf (add8 cfg a b c f).1 (add8 cfg a b c f).2 ∧
      ((add8 cfg a b c f).2.cy = true ↔ 255 < a.toNat + b.toNat + bit c) ∧
      (cfg.acMode = .literal → (add8 cfg a b c f).2.ac = false) ∧
      (cfg.acMode = .nibble →
        ((add8 cfg a b c f).2.ac = true ↔ 15 < a.toNat % 16 + b.toNat % 16 + bit c))) ∧
    (((sub8 cfg a b c f).1.toNat : Int) = ((a.toNat : Int) - b.toNat - bit c) % 256 ∧
      ZspOf (sub8 cfg a b c f).1 (sub8 cfg a b c f).2 ∧
      ((sub8 cfg a b c f).2.cy = true ↔ a.toNat < b.toNat + bit c) ∧
      (cfg.acMode = .literal → (sub8 cfg a b c f).2.ac = false) ∧
      (cfg.acMode = .nibble →
        ((sub8 cfg a b c f).2.ac = true ↔ 15 < a.toNat % 16 + (15 - b.toNat % 16) + (1 - bit c))))

/-- R40: the flags survive the round trip through the flags byte in every well-formed layout, and the default
layout is `S Z 0 AC 0 P 1 CY`. -/
def Obligations.FlagsByteRoundTrip : Prop :=
  (∀ (lay : PswLayout) (f : Flags), lay.wellFormed = true → flagsOfByte lay (flagsByte lay f) = f) ∧
    (∀ f : Flags, (flagsByte config.pswLayout f).toNat =
      128 * bit f.s + 64 * bit f.z + 16 * bit f.ac + 4 * bit f.p + 2 + bit f.cy) ∧
    (∀ v : Byte, flagsOfByte config.pswLayout v =
      { s := v.getLsbD 7, z := v.getLsbD 6, ac := v.getLsbD 4, p := v.getLsbD 2, cy := v.getLsbD 0 })

/-! ## What instructions leave alone -/

/-- R39 with R57's table: an instruction writes only the flags its category writes. -/
def Obligations.FlagsWrittenByCategoryOnly : Prop :=
  ∀ (i : Instr) (s t : State) (x : Flag), exec i s = .next t → writesFlag (formOf i) x = false →
    flagOf x t.flags = flagOf x s.flags

/-- An instruction writes only its destination registers, and SP only where R35 says so. -/
def Obligations.RegisterFrame : Prop :=
  ∀ (i : Instr) (s t : State), exec i s = .next t →
    (∀ r, r ∉ destRegs (formOf i) → getReg r t = getReg r s) ∧
      (writesSp (formOf i) = false → t.sp = s.sp)

/-- An instruction stores only to the addresses of its rule; a form that stores nothing leaves all of memory. -/
def Obligations.MemoryFrame : Prop :=
  ∀ (i : Instr) (s t : State), exec i s = .next t → SameMemoryOutside (storedAddrs (formOf i) s) s t

/-- INTE changes by EI and DI only, the latches by OUT only, the status by HLT, OUT and the undocumented bytes only;
no instruction touches the scheduler's count and phase, and none writes IN1 or IN2. Only OUT to port 3 or port 5
emits an event, and no instruction emits more than one (R105). -/
def Obligations.ControlFrame : Prop :=
  ∀ (i : Instr) (s t : State), exec i s = .next t →
    (t.inte ≠ s.inte → i = .ei ∨ i = .di) ∧
    (t.latches ≠ s.latches → ∃ p, i = .outPort p) ∧
    (execEvents i s ≠ [] → ∃ p, i = .outPort p ∧ (p = 3 ∨ p = 5)) ∧ (execEvents i s).length ≤ 1 ∧
    (t.latches.in1 = s.latches.in1 ∧ t.latches.in2 = s.latches.in2) ∧
    (t.status ≠ s.status → i = .hlt ∨ (∃ p, i = .outPort p) ∨ i.wellFormed = false) ∧
    t.cycleCount = s.cycleCount ∧ t.phase = s.phase

/-! ## Data transfer -/

/-- R150, R151, R153, R156, R160: MOV r,r', MOV r,M, MVI r, LDA, LDAX. -/
def Obligations.LoadsIntoRegister : Prop :=
  (∀ (dst src : Reg) (s : State), encode (instrOf (.movRR dst src)) = [byte233 0b01 (regCode dst) (regCode src)] ∧
    ∃ t, exec (instrOf (.movRR dst src)) s = .next t ∧ LoadsReg dst (getReg src s) 1 s t) ∧
  (∀ (dst : Reg) (s : State), encode (instrOf (.movRM dst)) = [byte233 0b01 (regCode dst) 0b110] ∧
    ∃ t, exec (instrOf (.movRM dst)) s = .next t ∧ LoadsReg dst (readByte (getPair .hl s) s) 1 s t) ∧
  (∀ (dst : Reg) (v : Byte) (s : State), encode (instrOf (.mvi (.reg dst) v)) = [byte233 0b00 (regCode dst) 0b110, v] ∧
    ∃ t, exec (instrOf (.mvi (.reg dst) v)) s = .next t ∧ LoadsReg dst v 2 s t) ∧
  (∀ (a : Word) (s : State), encode (.lda a) = [0x3A, lo8 a, hi8 a] ∧
    ∃ t, exec (.lda a) s = .next t ∧ LoadsReg .a (readByte a s) 3 s t) ∧
  (∀ s : State, encode .ldaxB = [0x0A] ∧ encode .ldaxD = [0x1A] ∧
    (∃ t, exec .ldaxB s = .next t ∧ LoadsReg .a (readByte (getPair .bc s) s) 1 s t) ∧
    (∃ t, exec .ldaxD s = .next t ∧ LoadsReg .a (readByte (getPair .de s) s) 1 s t))

/-- R152, R154, R157, R161: MOV M,r, MVI M, STA, STAX. -/
def Obligations.ByteStores : Prop :=
  (∀ (r : Reg) (s : State), encode (instrOf (.movMR r)) = [byte233 0b01 0b110 (regCode r)] ∧
    ∃ t, exec (instrOf (.movMR r)) s = .next t ∧ StoresByte (getPair .hl s) (getReg r s) 1 s t) ∧
  (∀ (v : Byte) (s : State), encode (.mviM v) = [0x36, v] ∧
    ∃ t, exec (.mviM v) s = .next t ∧ StoresByte (getPair .hl s) v 2 s t) ∧
  (∀ (a : Word) (s : State), encode (.sta a) = [0x32, lo8 a, hi8 a] ∧
    ∃ t, exec (.sta a) s = .next t ∧ StoresByte a s.regs.a 3 s t) ∧
  (∀ s : State, encode .staxB = [0x02] ∧ encode .staxD = [0x12] ∧
    (∃ t, exec .staxB s = .next t ∧ StoresByte (getPair .bc s) s.regs.a 1 s t) ∧
    (∃ t, exec .staxD s = .next t ∧ StoresByte (getPair .de s) s.regs.a 1 s t))

/-- R155, R219, R220: LXI, INX, DCX. -/
def Obligations.PairLoadsAndSteps : Prop :=
  (∀ (rp : Rp) (w : Word) (s : State), encode (instrOf (.lxi rp w)) = [byte224 0b00 (rpCode rp) 0b0001, lo8 w, hi8 w] ∧
    ∃ t, exec (instrOf (.lxi rp w)) s = .next t ∧ LoadsRp rp w 3 s t) ∧
  (∀ (rp : Rp) (s : State), encode (instrOf (.inx rp)) = [byte224 0b00 (rpCode rp) 0b0011] ∧
    ∃ t, exec (instrOf (.inx rp)) s = .next t ∧ LoadsRp rp (readRp rp s + 1) 1 s t) ∧
  (∀ (rp : Rp) (s : State), encode (instrOf (.dcx rp)) = [byte224 0b00 (rpCode rp) 0b1011] ∧
    ∃ t, exec (instrOf (.dcx rp)) s = .next t ∧ LoadsRp rp (readRp rp s - 1) 1 s t)

/-- R158, R159, R162: LHLD, SHLD, XCHG. -/
def Obligations.WordTransfersOfHl : Prop :=
  (∀ (a : Word) (s : State), encode (.lhld a) = [0x2A, lo8 a, hi8 a] ∧
    exec (.lhld a) s = .next { s with
      regs := { s.regs with l := readByte a s, h := readByte (a + 1) s }, pc := s.pc + 3 }) ∧
  (∀ (a : Word) (s : State), encode (.shld a) = [0x22, lo8 a, hi8 a] ∧
    ∃ t, exec (.shld a) s = .next t ∧ readByte a t = s.regs.l ∧ readByte (a + 1) t = s.regs.h ∧
      SameMemoryOutside [a, a + 1] s t ∧ t = { s with mem := t.mem, pc := s.pc + 3 }) ∧
  (∀ s : State, encode .xchg = [0xEB] ∧
    exec .xchg s = .next { s with
      regs := { s.regs with d := s.regs.h, e := s.regs.l, h := s.regs.d, l := s.regs.e }, pc := s.pc + 1 })

/-! ## Arithmetic and logic -/

/-- R203 to R208: ADD and ADC on a register or M, ADI, ACI. -/
def Obligations.Additions : Prop :=
  (∀ (o : Opnd) (s : State), encode (instrOf (.alu .add o)) = [byte233 0b10 0b000 (opndCode o)] ∧
    ∃ t, exec (instrOf (.alu .add o)) s = .next t ∧
      AccOutcome (s.regs.a + readOpnd o s) (s.regs.a + readOpnd o s)
        (decide (255 < s.regs.a.toNat + (readOpnd o s).toNat)) 1 s t) ∧
  (∀ (v : Byte) (s : State), encode (.adi v) = [0xC6, v] ∧
    ∃ t, exec (.adi v) s = .next t ∧
      AccOutcome (s.regs.a + v) (s.regs.a + v) (decide (255 < s.regs.a.toNat + v.toNat)) 2 s t) ∧
  (∀ (o : Opnd) (s : State), encode (instrOf (.alu .adc o)) = [byte233 0b10 0b001 (opndCode o)] ∧
    ∃ t, exec (instrOf (.alu .adc o)) s = .next t ∧
      AccOutcome (s.regs.a + readOpnd o s + BitVec.ofNat 8 (bit s.flags.cy))
        (s.regs.a + readOpnd o s + BitVec.ofNat 8 (bit s.flags.cy))
        (decide (255 < s.regs.a.toNat + (readOpnd o s).toNat + bit s.flags.cy)) 1 s t) ∧
  (∀ (v : Byte) (s : State), encode (.aci v) = [0xCE, v] ∧
    ∃ t, exec (.aci v) s = .next t ∧
      AccOutcome (s.regs.a + v + BitVec.ofNat 8 (bit s.flags.cy)) (s.regs.a + v + BitVec.ofNat 8 (bit s.flags.cy))
        (decide (255 < s.regs.a.toNat + v.toNat + bit s.flags.cy)) 2 s t)

/-- R209 to R214: SUB and SBB on a register or M, SUI, SBI. CY set means a borrow. -/
def Obligations.Subtractions : Prop :=
  (∀ (o : Opnd) (s : State), encode (instrOf (.alu .sub o)) = [byte233 0b10 0b010 (opndCode o)] ∧
    ∃ t, exec (instrOf (.alu .sub o)) s = .next t ∧
      AccOutcome (s.regs.a - readOpnd o s) (s.regs.a - readOpnd o s)
        (decide (s.regs.a.toNat < (readOpnd o s).toNat)) 1 s t) ∧
  (∀ (v : Byte) (s : State), encode (.sui v) = [0xD6, v] ∧
    ∃ t, exec (.sui v) s = .next t ∧
      AccOutcome (s.regs.a - v) (s.regs.a - v) (decide (s.regs.a.toNat < v.toNat)) 2 s t) ∧
  (∀ (o : Opnd) (s : State), encode (instrOf (.alu .sbb o)) = [byte233 0b10 0b011 (opndCode o)] ∧
    ∃ t, exec (instrOf (.alu .sbb o)) s = .next t ∧
      AccOutcome (s.regs.a - readOpnd o s - BitVec.ofNat 8 (bit s.flags.cy))
        (s.regs.a - readOpnd o s - BitVec.ofNat 8 (bit s.flags.cy))
        (decide (s.regs.a.toNat < (readOpnd o s).toNat + bit s.flags.cy)) 1 s t) ∧
  (∀ (v : Byte) (s : State), encode (.sbi v) = [0xDE, v] ∧
    ∃ t, exec (.sbi v) s = .next t ∧
      AccOutcome (s.regs.a - v - BitVec.ofNat 8 (bit s.flags.cy)) (s.regs.a - v - BitVec.ofNat 8 (bit s.flags.cy))
        (decide (s.regs.a.toNat < v.toNat + bit s.flags.cy)) 2 s t)

/-- R260 to R262: CMP on a register or M, CPI: the flags of the subtraction, A kept. -/
def Obligations.Comparisons : Prop :=
  (∀ (o : Opnd) (s : State), encode (instrOf (.alu .cmp o)) = [byte233 0b10 0b111 (opndCode o)] ∧
    ∃ t, exec (instrOf (.alu .cmp o)) s = .next t ∧
      AccOutcome s.regs.a (s.regs.a - readOpnd o s) (decide (s.regs.a.toNat < (readOpnd o s).toNat)) 1 s t) ∧
  (∀ (v : Byte) (s : State), encode (.cpi v) = [0xFE, v] ∧
    ∃ t, exec (.cpi v) s = .next t ∧
      AccOutcome s.regs.a (s.regs.a - v) (decide (s.regs.a.toNat < v.toNat)) 2 s t)

/-- R251 to R259: ANA, XRA, ORA on a register or M, ANI, XRI, ORI: CY and AC are 0. -/
def Obligations.LogicalOperations : Prop :=
  (∀ (o : Opnd) (s : State),
    encode (instrOf (.alu .ana o)) = [byte233 0b10 0b100 (opndCode o)] ∧
    encode (instrOf (.alu .xra o)) = [byte233 0b10 0b101 (opndCode o)] ∧
    encode (instrOf (.alu .ora o)) = [byte233 0b10 0b110 (opndCode o)] ∧
    (∃ t, exec (instrOf (.alu .ana o)) s = .next t ∧
      AccOutcome (s.regs.a &&& readOpnd o s) (s.regs.a &&& readOpnd o s) false 1 s t) ∧
    (∃ t, exec (instrOf (.alu .xra o)) s = .next t ∧
      AccOutcome (s.regs.a ^^^ readOpnd o s) (s.regs.a ^^^ readOpnd o s) false 1 s t) ∧
    (∃ t, exec (instrOf (.alu .ora o)) s = .next t ∧
      AccOutcome (s.regs.a ||| readOpnd o s) (s.regs.a ||| readOpnd o s) false 1 s t)) ∧
  (∀ (v : Byte) (s : State),
    encode (.ani v) = [0xE6, v] ∧ encode (.xri v) = [0xEE, v] ∧ encode (.ori v) = [0xF6, v] ∧
    (∃ t, exec (.ani v) s = .next t ∧ AccOutcome (s.regs.a &&& v) (s.regs.a &&& v) false 2 s t) ∧
    (∃ t, exec (.xri v) s = .next t ∧ AccOutcome (s.regs.a ^^^ v) (s.regs.a ^^^ v) false 2 s t) ∧
    (∃ t, exec (.ori v) s = .next t ∧ AccOutcome (s.regs.a ||| v) (s.regs.a ||| v) false 2 s t))

/-- R250: the logical operations in every configuration; under `nibble`, AND sets AC to bit 3 of `a | b`. -/
def Obligations.LogicAlgebra : Prop :=
  ∀ (cfg : Config) (a b : Byte) (f : Flags),
    ((and8 cfg a b f).1 = a &&& b ∧ ZspOf (a &&& b) (and8 cfg a b f).2 ∧ (and8 cfg a b f).2.cy = false ∧
      (cfg.acMode = .literal → (and8 cfg a b f).2.ac = false) ∧
      (cfg.acMode = .nibble → (and8 cfg a b f).2.ac = (a.getLsbD 3 || b.getLsbD 3))) ∧
    ((xor8 cfg a b f).1 = a ^^^ b ∧ ZspOf (a ^^^ b) (xor8 cfg a b f).2 ∧ (xor8 cfg a b f).2.cy = false ∧
      (xor8 cfg a b f).2.ac = false) ∧
    ((or8 cfg a b f).1 = a ||| b ∧ ZspOf (a ||| b) (or8 cfg a b f).2 ∧ (or8 cfg a b f).2.cy = false ∧
      (or8 cfg a b f).2.ac = false)

/-- R215 to R218: INR and DCR on a register and on M; CY is kept. -/
def Obligations.IncrementsAndDecrements : Prop :=
  (∀ (r : Reg) (s : State), encode (instrOf (.inr (.reg r))) = [byte233 0b00 (regCode r) 0b100] ∧
    ∃ t, exec (instrOf (.inr (.reg r))) s = .next t ∧ LoadsReg r (getReg r s + 1) 1 { s with flags := t.flags } t ∧
      StepFlags (getReg r s + 1) s t) ∧
  (∀ (r : Reg) (s : State), encode (instrOf (.dcr (.reg r))) = [byte233 0b00 (regCode r) 0b101] ∧
    ∃ t, exec (instrOf (.dcr (.reg r))) s = .next t ∧ LoadsReg r (getReg r s - 1) 1 { s with flags := t.flags } t ∧
      StepFlags (getReg r s - 1) s t) ∧
  (∀ s : State, encode .inrM = [0x34] ∧
    ∃ t, exec .inrM s = .next t ∧
      StoresByte (getPair .hl s) (readByte (getPair .hl s) s + 1) 1 { s with flags := t.flags } t ∧
      StepFlags (readByte (getPair .hl s) s + 1) s t) ∧
  (∀ s : State, encode .dcrM = [0x35] ∧
    ∃ t, exec .dcrM s = .next t ∧
      StoresByte (getPair .hl s) (readByte (getPair .hl s) s - 1) 1 { s with flags := t.flags } t ∧
      StepFlags (readByte (getPair .hl s) s - 1) s t)

/-- R221: DAD writes HL and CY only. -/
def Obligations.DoubleAdd : Prop :=
  ∀ (rp : Rp) (s : State), encode (instrOf (.dad rp)) = [byte224 0b00 (rpCode rp) 0b1001] ∧
    ∃ t, exec (instrOf (.dad rp)) s = .next t ∧
      (getPair .hl t).toNat = ((getPair .hl s).toNat + (readRp rp s).toNat) % 65536 ∧
      t = { s with
        regs := { s.regs with h := t.regs.h, l := t.regs.l },
        flags := { s.flags with cy := decide (65535 < (getPair .hl s).toNat + (readRp rp s).toNat) },
        pc := s.pc + 1 }

/-- R222: DAA, with the corrections of the pseudocode; a set CY is never cleared. -/
def Obligations.DecimalAdjust : Prop :=
  encode .daa = [0x27] ∧
  ∀ (s : State) (lsn msn : Nat) (low high : Bool) (corr : Byte),
    lsn = s.regs.a.toNat % 16 → msn = s.regs.a.toNat / 16 →
    low = (s.flags.ac || decide (9 < lsn)) →
    high = (s.flags.cy || decide (9 < msn) || (decide (9 ≤ msn) && decide (9 < lsn))) →
    corr = ((if low then 0x06#8 else 0#8) ||| (if high then 0x60#8 else 0#8)) →
    ∃ t, exec .daa s = .next t ∧ AccOutcome (s.regs.a + corr) (s.regs.a + corr) high 1 s t

/-- R263 to R266: the rotates, bit by bit; they write A and CY only. -/
def Obligations.Rotates : Prop :=
  (encode .rlc = [0x07] ∧ encode .rrc = [0x0F] ∧ encode .ral = [0x17] ∧ encode .rar = [0x1F]) ∧
  ∀ s : State,
    (∃ (t : State) (a : Byte), exec .rlc s = .next t ∧ RotateOutcome a (s.regs.a.getLsbD 7) s t ∧
      ∀ i, i < 8 → a.getLsbD i = s.regs.a.getLsbD ((i + 7) % 8)) ∧
    (∃ (t : State) (a : Byte), exec .rrc s = .next t ∧ RotateOutcome a (s.regs.a.getLsbD 0) s t ∧
      ∀ i, i < 8 → a.getLsbD i = s.regs.a.getLsbD ((i + 1) % 8)) ∧
    (∃ (t : State) (a : Byte), exec .ral s = .next t ∧ RotateOutcome a (s.regs.a.getLsbD 7) s t ∧
      ∀ i, i < 8 → a.getLsbD i = (if i = 0 then s.flags.cy else s.regs.a.getLsbD (i - 1))) ∧
    (∃ (t : State) (a : Byte), exec .rar s = .next t ∧ RotateOutcome a (s.regs.a.getLsbD 0) s t ∧
      ∀ i, i < 8 → a.getLsbD i = (if i = 7 then s.flags.cy else s.regs.a.getLsbD (i + 1)))

/-- Eight RLCs or RRCs restore A and leave in CY the bit the last one rotated out; nine RALs or RARs, which rotate
the nine bits of CY and A, restore both. -/
def Obligations.RepeatedRotationsRestore : Prop :=
  ∀ s : State,
    repeatExec .rlc 8 s = .next { s with flags := { s.flags with cy := s.regs.a.getLsbD 0 }, pc := s.pc + 8 } ∧
    repeatExec .rrc 8 s = .next { s with flags := { s.flags with cy := s.regs.a.getLsbD 7 }, pc := s.pc + 8 } ∧
    repeatExec .ral 9 s = .next { s with pc := s.pc + 9 } ∧
    repeatExec .rar 9 s = .next { s with pc := s.pc + 9 }

/-- R267 to R269: CMA, CMC, STC. -/
def Obligations.ComplementAndCarry : Prop :=
  (encode .cma = [0x2F] ∧ encode .cmc = [0x3F] ∧ encode .stc = [0x37]) ∧
  ∀ s : State,
    (∃ t, exec .cma s = .next t ∧ t.regs.a.toNat = 255 - s.regs.a.toNat ∧
      t = { s with regs := { s.regs with a := t.regs.a }, pc := s.pc + 1 }) ∧
    exec .cmc s = .next { s with flags := { s.flags with cy := !s.flags.cy }, pc := s.pc + 1 } ∧
    exec .stc s = .next { s with flags := { s.flags with cy := true }, pc := s.pc + 1 }

/-! ## Control transfer -/

/-- R300 to R309, R329: each condition tests one flag; JMP, the eight conditional jumps, which cost the same taken
or not (10 by R459's default table: D25, assumption 4), PCHL. -/
def Obligations.Jumps : Prop :=
  (∀ f : Flags,
    (condHolds .nz f = true ↔ f.z = false) ∧ (condHolds .z f = true ↔ f.z = true) ∧
    (condHolds .nc f = true ↔ f.cy = false) ∧ (condHolds .c f = true ↔ f.cy = true) ∧
    (condHolds .po f = true ↔ f.p = false) ∧ (condHolds .pe f = true ↔ f.p = true) ∧
    (condHolds .p f = true ↔ f.s = false) ∧ (condHolds .m f = true ↔ f.s = true)) ∧
  (∀ (a : Word) (s : State), encode (.jmp a) = [0xC3, lo8 a, hi8 a] ∧ exec (.jmp a) s = .next { s with pc := a }) ∧
  (∀ (cond : Cond) (a : Word) (s : State),
    encode (instrOf (.jcc cond a)) = [byte233 0b11 (condCode cond) 0b010, lo8 a, hi8 a] ∧
    exec (instrOf (.jcc cond a)) s = .next { s with pc := if condHolds cond s.flags then a else s.pc + 3 } ∧
    (∀ f : Flags, opCost config (opcodeOf (instrOf (.jcc cond a))) f = 10)) ∧
  (∀ s : State, encode .pchl = [0xE9] ∧ exec .pchl s = .next { s with pc := getPair .hl s })

/-- R310 to R318, R328: CALL, the eight conditional calls, which cost 11 and 6 more when taken (the defaults of
R459 and R460: D25, assumption 4), the eight RST. -/
def Obligations.Calls : Prop :=
  (∀ (a : Word) (s : State), encode (.call a) = [0xCD, lo8 a, hi8 a] ∧
    ∃ t, exec (.call a) s = .next t ∧ Pushed (s.pc + 3) s t ∧
      t = { s with mem := t.mem, sp := t.sp, pc := a }) ∧
  (∀ (cond : Cond) (a : Word) (s : State),
    encode (instrOf (.ccc cond a)) = [byte233 0b11 (condCode cond) 0b100, lo8 a, hi8 a] ∧
    (condHolds cond s.flags = true →
      ∃ t, exec (instrOf (.ccc cond a)) s = .next t ∧ Pushed (s.pc + 3) s t ∧
        t = { s with mem := t.mem, sp := t.sp, pc := a }) ∧
    (condHolds cond s.flags = false →
      exec (instrOf (.ccc cond a)) s = .next { s with pc := s.pc + 3 }) ∧
    (∀ f : Flags, opCost config (opcodeOf (instrOf (.ccc cond a))) f = if condHolds cond f then 11 + 6 else 11)) ∧
  (∀ (n : Fin 8) (s : State),
    encode (instrOf (.rst n)) = [byte233 0b11 (BitVec.ofNat 3 n.val) 0b111] ∧
    ∃ t, exec (instrOf (.rst n)) s = .next t ∧ Pushed (s.pc + 1) s t ∧ t.pc.toNat = 8 * n.val ∧
      t = { s with mem := t.mem, sp := t.sp, pc := t.pc })

/-- R319 to R327: RET and the eight conditional returns, which cost 5 and 6 more when taken (the defaults of
R459 and R460: D25, assumption 4). -/
def Obligations.Returns : Prop :=
  (∀ s : State, encode .ret = [0xC9] ∧
    ∃ t, exec .ret s = .next t ∧ t = { s with sp := s.sp + 2, pc := t.pc } ∧
      t.pc.toNat = (readByte (s.sp + 1) s).toNat * 256 + (readByte s.sp s).toNat) ∧
  (∀ (cond : Cond) (s : State),
    encode (instrOf (.rcc cond)) = [byte233 0b11 (condCode cond) 0b000] ∧
    (condHolds cond s.flags = true →
      ∃ t, exec (instrOf (.rcc cond)) s = .next t ∧ t = { s with sp := s.sp + 2, pc := t.pc } ∧
        t.pc.toNat = (readByte (s.sp + 1) s).toNat * 256 + (readByte s.sp s).toNat) ∧
    (condHolds cond s.flags = false → exec (instrOf (.rcc cond)) s = .next { s with pc := s.pc + 1 }) ∧
    (∀ f : Flags, opCost config (opcodeOf (instrOf (.rcc cond))) f = if condHolds cond f then 5 + 6 else 5))

/-! ## Stack, ports and machine control -/

/-- R370, R371: PUSH of a pair and PUSH PSW, whose word is A above the flags byte. -/
def Obligations.Pushes : Prop :=
  (∀ (p : Pair) (s : State), encode (instrOf (.push p)) = [byte224 0b11 (pairCode p) 0b0101] ∧
    ∃ t, exec (instrOf (.push p)) s = .next t ∧ Pushed (getPair p s) s t ∧
      t = { s with mem := t.mem, sp := t.sp, pc := s.pc + 1 }) ∧
  (∀ s : State, encode .pushPSW = [0xF5] ∧
    ∃ t, exec .pushPSW s = .next t ∧ Pushed (joinBytes s.regs.a (flagsByte config.pswLayout s.flags)) s t ∧
      t = { s with mem := t.mem, sp := t.sp, pc := s.pc + 1 })

/-- R372, R373: POP of a pair and POP PSW. -/
def Obligations.Pops : Prop :=
  (∀ (p : Pair) (s : State), encode (instrOf (.pop p)) = [byte224 0b11 (pairCode p) 0b0001] ∧
    ∃ t, exec (instrOf (.pop p)) s = .next t ∧ getReg (pairLow p) t = readByte s.sp s ∧
      getReg (pairHigh p) t = readByte (s.sp + 1) s ∧
      (∀ r, r ≠ pairLow p → r ≠ pairHigh p → getReg r t = getReg r s) ∧
      t = { s with regs := t.regs, sp := s.sp + 2, pc := s.pc + 1 }) ∧
  (∀ (s : State) (f : Byte), f = readByte s.sp s → encode .popPSW = [0xF1] ∧
    exec .popPSW s = .next { s with
      regs := { s.regs with a := readByte (s.sp + 1) s },
      flags := { s := f.getLsbD 7, z := f.getLsbD 6, ac := f.getLsbD 4, p := f.getLsbD 2, cy := f.getLsbD 0 },
      sp := s.sp + 2, pc := s.pc + 1 })

/-- R374, R375: XTHL and SPHL. -/
def Obligations.StackExchanges : Prop :=
  (∀ s : State, encode .xthl = [0xE3] ∧
    ∃ t, exec .xthl s = .next t ∧ readByte s.sp t = s.regs.l ∧ readByte (s.sp + 1) t = s.regs.h ∧
      SameMemoryOutside [s.sp, s.sp + 1] s t ∧
      t = { s with
        regs := { s.regs with l := readByte s.sp s, h := readByte (s.sp + 1) s }, mem := t.mem, pc := s.pc + 1 }) ∧
  (∀ s : State, encode .sphl = [0xF9] ∧ exec .sphl s = .next { s with sp := getPair .hl s, pc := s.pc + 1 })

/-- R97, R98, R376: IN loads A with the port's value and changes no latch. Port 0's value is the open constant. -/
def Obligations.InputPorts : Prop :=
  ∀ (p : Byte) (s : State), encode (.inPort p) = [0xDB, p] ∧
    ∃ t, exec (.inPort p) s = .next t ∧ LoadsReg .a t.regs.a 2 s t ∧
      (p = 0 → t.regs.a = config.port0Value) ∧ (p = 1 → t.regs.a = s.latches.in1) ∧
      (p = 2 → t.regs.a = s.latches.in2) ∧
      (p = 3 → t.regs.a.toNat = (s.latches.shift1.toNat * 256 + s.latches.shift0.toNat) /
        2 ^ (8 - s.latches.shiftOffset.toNat) % 256) ∧
      (4 ≤ p.toNat → t.regs.a = 0)

/-- R99 to R103, R377: OUT to ports 2 to 6. Ports 3 and 5 emit an event, repeats included; the others emit none. -/
def Obligations.OutputPorts : Prop :=
  (∀ p : Byte, encode (.outPort p) = [0xD3, p]) ∧
  ∀ s : State,
    ((∃ t, exec (.outPort 2) s = .next t ∧ t.latches.shiftOffset.toNat = s.regs.a.toNat % 8 ∧
      t = { s with latches := { s.latches with shiftOffset := t.latches.shiftOffset }, pc := s.pc + 2 }) ∧
      execEvents (.outPort 2) s = []) ∧
    (exec (.outPort 3) s = .next { s with latches := { s.latches with out3 := s.regs.a }, pc := s.pc + 2 } ∧
      execEvents (.outPort 3) s = [⟨3, s.regs.a⟩]) ∧
    (exec (.outPort 4) s = .next { s with
      latches := { s.latches with shift0 := s.latches.shift1, shift1 := s.regs.a }, pc := s.pc + 2 } ∧
      execEvents (.outPort 4) s = []) ∧
    (exec (.outPort 5) s = .next { s with latches := { s.latches with out5 := s.regs.a }, pc := s.pc + 2 } ∧
      execEvents (.outPort 5) s = [⟨5, s.regs.a⟩]) ∧
    (exec (.outPort 6) s = .next { s with pc := s.pc + 2 } ∧ execEvents (.outPort 6) s = [])

/-- R403: OUT to a port outside 2 to 6 ends the run; only the status changes, PC stays at the OUT, and no event is
emitted. -/
def Obligations.UnrecognisedPortStopsTheRun : Prop :=
  ∀ (p : Byte) (s : State), p.toNat ∉ [2, 3, 4, 5, 6] →
    exec (.outPort p) s = .next { s with status := .unimplementedPort p } ∧ execEvents (.outPort p) s = []

/-- R378 to R381: EI, DI, HLT, NOP. -/
def Obligations.MachineControl : Prop :=
  (encode .ei = [0xFB] ∧ encode .di = [0xF3] ∧ encode .hlt = [0x76] ∧ encode .nop = [0x00]) ∧
  ∀ s : State,
    exec .ei s = .next { s with inte := true, pc := s.pc + 1 } ∧
    exec .di s = .next { s with inte := false, pc := s.pc + 1 } ∧
    exec .hlt s = .next { s with status := .halted, pc := s.pc + 1 } ∧
    exec .nop s = .next { s with pc := s.pc + 1 }

/-! ## Reset and the host -/

/-- R450: the value of every piece of state after reset, with any ROM image; every byte of memory is the
image's or 0 (R451). An image over 65,536 bytes is refused. -/
def Obligations.ResetWithRomImage : Prop :=
  (∀ rom : List Byte, rom.length ≤ 65536 →
    ∃ t, resetWith rom = .next t ∧ (∀ a : Word, readByte a t = rom.getD a.toNat 0) ∧
      t = { regs := ⟨0, 0, 0, 0, 0, 0, 0⟩, sp := 0, pc := 0, flags := ⟨false, false, false, false, false⟩,
            inte := false, latches := ⟨0, 0, 0, 0, 0, 0, 0⟩, mem := t.mem, status := .running, cycleCount := 0,
            phase := .top }) ∧
  (∀ rom : List Byte, 65536 < rom.length → resetWith rom = .refused .romTooLarge) ∧
  resetWith [] = .next State.reset

/-- R421: between half-frames (the status not `Running`, the count 0, or the budget spent: assumption 10) the host
may write the input bytes and clear the sound latches, which changes nothing else; during a half-frame the model
refuses. -/
def Obligations.HostWritesBetweenHalfFramesOnly : Prop :=
  (∀ s : State, s.status ≠ .running ∨ s.cycleCount = 0 ∨ 16667 ≤ s.cycleCount →
    (∀ in1 in2, hostWrite config (.writeInputs in1 in2) s =
      .next { s with latches := { s.latches with in1 := in1, in2 := in2 } }) ∧
    hostWrite config .clearOut3 s = .next { s with latches := { s.latches with out3 := 0 } } ∧
    hostWrite config .clearOut5 s = .next { s with latches := { s.latches with out5 := 0 } }) ∧
  (∀ (act : HostAction) (s : State), s.status = .running → 0 < s.cycleCount → s.cycleCount < 16667 →
    hostWrite config act s = .refused .hostDuringHalfFrame)
end

