-- ==== Sys2Proof/Laws/Config.lean ====
section
/-! SUPPORT. What a well-formed configuration gives. -/

namespace Sys2Proof

/-- In a well-formed configuration every opcode with a handler costs at least one cycle. -/
theorem Config.cycles_pos {cfg : Config} (h : cfg.wellFormed = true) {op : Byte} (hi : cfg.implemented op = true) :
    0 < cfg.cycles op := by
  have hc : cfg.costsCycles = true := by
    simp only [Config.wellFormed, Bool.and_eq_true] at h
    exact h.1.2
  have hop : BitVec.ofNat 8 (16 * (op.toNat / 16) + op.toNat % 16) = op := by
    rw [Nat.div_add_mod, BitVec.ofNat_toNat, BitVec.setWidth_eq]
  have hlt := op.isLt
  simp only [Config.costsCycles, List.all_eq_true, List.mem_range] at hc
  have := hc (op.toNat / 16) (by omega) (op.toNat % 16) (by omega)
  simpa [hop, hi] using this

/-- In a well-formed configuration the half-frame is not empty. -/
theorem Config.halfFrame_pos {cfg : Config} (h : cfg.wellFormed = true) : 0 < cfg.halfFrameCycles := by
  simp only [Config.wellFormed, Bool.and_eq_true, decide_eq_true_eq] at h
  exact h.1.1.2

/-- In a well-formed configuration an undocumented byte has no handler. -/
theorem Config.undocumented_not_implemented {cfg : Config} (h : cfg.wellFormed = true) (u : Undoc) :
    cfg.implemented (undocByte u) = false := by
  simp only [Config.wellFormed, Bool.and_eq_true, List.all_eq_true] at h
  have := h.2 u (by cases u <;> simp)
  simpa using this

end Sys2Proof
end

