-- ==== Sys2Proof/Laws/State.lean ====
section
/-! SUPPORT. One lemma for each field of State after each named update, true by definition, so that no proof
unfolds a record update. -/

namespace Sys2Proof.Machine

@[simp] theorem setReg_regs (r : Reg) (v : Byte) (s : State) : (setReg r v s).regs = regsWith r v s.regs := rfl
@[simp] theorem setReg_sp (r : Reg) (v : Byte) (s : State) : (setReg r v s).sp = s.sp := rfl
@[simp] theorem setReg_pc (r : Reg) (v : Byte) (s : State) : (setReg r v s).pc = s.pc := rfl
@[simp] theorem setReg_flags (r : Reg) (v : Byte) (s : State) : (setReg r v s).flags = s.flags := rfl
@[simp] theorem setReg_inte (r : Reg) (v : Byte) (s : State) : (setReg r v s).inte = s.inte := rfl
@[simp] theorem setReg_latches (r : Reg) (v : Byte) (s : State) : (setReg r v s).latches = s.latches := rfl
@[simp] theorem setReg_mem (r : Reg) (v : Byte) (s : State) : (setReg r v s).mem = s.mem := rfl
@[simp] theorem setReg_status (r : Reg) (v : Byte) (s : State) : (setReg r v s).status = s.status := rfl
@[simp] theorem setReg_cycleCount (r : Reg) (v : Byte) (s : State) : (setReg r v s).cycleCount = s.cycleCount := rfl
@[simp] theorem setReg_phase (r : Reg) (v : Byte) (s : State) : (setReg r v s).phase = s.phase := rfl

@[simp] theorem setPair_regs (p : Pair) (w : Word) (s : State) : (setPair p w s).regs = regsWith (pairLow p) (lo8 w) (regsWith (pairHigh p) (hi8 w) s.regs) := rfl
@[simp] theorem setPair_sp (p : Pair) (w : Word) (s : State) : (setPair p w s).sp = s.sp := rfl
@[simp] theorem setPair_pc (p : Pair) (w : Word) (s : State) : (setPair p w s).pc = s.pc := rfl
@[simp] theorem setPair_flags (p : Pair) (w : Word) (s : State) : (setPair p w s).flags = s.flags := rfl
@[simp] theorem setPair_inte (p : Pair) (w : Word) (s : State) : (setPair p w s).inte = s.inte := rfl
@[simp] theorem setPair_latches (p : Pair) (w : Word) (s : State) : (setPair p w s).latches = s.latches := rfl
@[simp] theorem setPair_mem (p : Pair) (w : Word) (s : State) : (setPair p w s).mem = s.mem := rfl
@[simp] theorem setPair_status (p : Pair) (w : Word) (s : State) : (setPair p w s).status = s.status := rfl
@[simp] theorem setPair_cycleCount (p : Pair) (w : Word) (s : State) : (setPair p w s).cycleCount = s.cycleCount := rfl
@[simp] theorem setPair_phase (p : Pair) (w : Word) (s : State) : (setPair p w s).phase = s.phase := rfl

@[simp] theorem setFlags_regs (f : Flags) (s : State) : (setFlags f s).regs = s.regs := rfl
@[simp] theorem setFlags_sp (f : Flags) (s : State) : (setFlags f s).sp = s.sp := rfl
@[simp] theorem setFlags_pc (f : Flags) (s : State) : (setFlags f s).pc = s.pc := rfl
@[simp] theorem setFlags_flags (f : Flags) (s : State) : (setFlags f s).flags = f := rfl
@[simp] theorem setFlags_inte (f : Flags) (s : State) : (setFlags f s).inte = s.inte := rfl
@[simp] theorem setFlags_latches (f : Flags) (s : State) : (setFlags f s).latches = s.latches := rfl
@[simp] theorem setFlags_mem (f : Flags) (s : State) : (setFlags f s).mem = s.mem := rfl
@[simp] theorem setFlags_status (f : Flags) (s : State) : (setFlags f s).status = s.status := rfl
@[simp] theorem setFlags_cycleCount (f : Flags) (s : State) : (setFlags f s).cycleCount = s.cycleCount := rfl
@[simp] theorem setFlags_phase (f : Flags) (s : State) : (setFlags f s).phase = s.phase := rfl

@[simp] theorem advance_regs (len : Word) (s : State) : (advance len s).regs = s.regs := rfl
@[simp] theorem advance_sp (len : Word) (s : State) : (advance len s).sp = s.sp := rfl
@[simp] theorem advance_pc (len : Word) (s : State) : (advance len s).pc = s.pc + len := rfl
@[simp] theorem advance_flags (len : Word) (s : State) : (advance len s).flags = s.flags := rfl
@[simp] theorem advance_inte (len : Word) (s : State) : (advance len s).inte = s.inte := rfl
@[simp] theorem advance_latches (len : Word) (s : State) : (advance len s).latches = s.latches := rfl
@[simp] theorem advance_mem (len : Word) (s : State) : (advance len s).mem = s.mem := rfl
@[simp] theorem advance_status (len : Word) (s : State) : (advance len s).status = s.status := rfl
@[simp] theorem advance_cycleCount (len : Word) (s : State) : (advance len s).cycleCount = s.cycleCount := rfl
@[simp] theorem advance_phase (len : Word) (s : State) : (advance len s).phase = s.phase := rfl

@[simp] theorem jump_regs (w : Word) (s : State) : (jump w s).regs = s.regs := rfl
@[simp] theorem jump_sp (w : Word) (s : State) : (jump w s).sp = s.sp := rfl
@[simp] theorem jump_pc (w : Word) (s : State) : (jump w s).pc = w := rfl
@[simp] theorem jump_flags (w : Word) (s : State) : (jump w s).flags = s.flags := rfl
@[simp] theorem jump_inte (w : Word) (s : State) : (jump w s).inte = s.inte := rfl
@[simp] theorem jump_latches (w : Word) (s : State) : (jump w s).latches = s.latches := rfl
@[simp] theorem jump_mem (w : Word) (s : State) : (jump w s).mem = s.mem := rfl
@[simp] theorem jump_status (w : Word) (s : State) : (jump w s).status = s.status := rfl
@[simp] theorem jump_cycleCount (w : Word) (s : State) : (jump w s).cycleCount = s.cycleCount := rfl
@[simp] theorem jump_phase (w : Word) (s : State) : (jump w s).phase = s.phase := rfl

@[simp] theorem setStatus_regs (st : Status) (s : State) : (setStatus st s).regs = s.regs := rfl
@[simp] theorem setStatus_sp (st : Status) (s : State) : (setStatus st s).sp = s.sp := rfl
@[simp] theorem setStatus_pc (st : Status) (s : State) : (setStatus st s).pc = s.pc := rfl
@[simp] theorem setStatus_flags (st : Status) (s : State) : (setStatus st s).flags = s.flags := rfl
@[simp] theorem setStatus_inte (st : Status) (s : State) : (setStatus st s).inte = s.inte := rfl
@[simp] theorem setStatus_latches (st : Status) (s : State) : (setStatus st s).latches = s.latches := rfl
@[simp] theorem setStatus_mem (st : Status) (s : State) : (setStatus st s).mem = s.mem := rfl
@[simp] theorem setStatus_status (st : Status) (s : State) : (setStatus st s).status = st := rfl
@[simp] theorem setStatus_cycleCount (st : Status) (s : State) : (setStatus st s).cycleCount = s.cycleCount := rfl
@[simp] theorem setStatus_phase (st : Status) (s : State) : (setStatus st s).phase = s.phase := rfl

@[simp] theorem setInte_regs (on : Bool) (s : State) : (setInte on s).regs = s.regs := rfl
@[simp] theorem setInte_sp (on : Bool) (s : State) : (setInte on s).sp = s.sp := rfl
@[simp] theorem setInte_pc (on : Bool) (s : State) : (setInte on s).pc = s.pc := rfl
@[simp] theorem setInte_flags (on : Bool) (s : State) : (setInte on s).flags = s.flags := rfl
@[simp] theorem setInte_inte (on : Bool) (s : State) : (setInte on s).inte = on := rfl
@[simp] theorem setInte_latches (on : Bool) (s : State) : (setInte on s).latches = s.latches := rfl
@[simp] theorem setInte_mem (on : Bool) (s : State) : (setInte on s).mem = s.mem := rfl
@[simp] theorem setInte_status (on : Bool) (s : State) : (setInte on s).status = s.status := rfl
@[simp] theorem setInte_cycleCount (on : Bool) (s : State) : (setInte on s).cycleCount = s.cycleCount := rfl
@[simp] theorem setInte_phase (on : Bool) (s : State) : (setInte on s).phase = s.phase := rfl

@[simp] theorem writeByte_regs (a : Word) (v : Byte) (s : State) : (writeByte a v s).regs = s.regs := rfl
@[simp] theorem writeByte_sp (a : Word) (v : Byte) (s : State) : (writeByte a v s).sp = s.sp := rfl
@[simp] theorem writeByte_pc (a : Word) (v : Byte) (s : State) : (writeByte a v s).pc = s.pc := rfl
@[simp] theorem writeByte_flags (a : Word) (v : Byte) (s : State) : (writeByte a v s).flags = s.flags := rfl
@[simp] theorem writeByte_inte (a : Word) (v : Byte) (s : State) : (writeByte a v s).inte = s.inte := rfl
@[simp] theorem writeByte_latches (a : Word) (v : Byte) (s : State) : (writeByte a v s).latches = s.latches := rfl
@[simp] theorem writeByte_mem (a : Word) (v : Byte) (s : State) : (writeByte a v s).mem = Memory.write s.mem a.toNat v := rfl
@[simp] theorem writeByte_status (a : Word) (v : Byte) (s : State) : (writeByte a v s).status = s.status := rfl
@[simp] theorem writeByte_cycleCount (a : Word) (v : Byte) (s : State) : (writeByte a v s).cycleCount = s.cycleCount := rfl
@[simp] theorem writeByte_phase (a : Word) (v : Byte) (s : State) : (writeByte a v s).phase = s.phase := rfl

@[simp] theorem writeWord_regs (a w : Word) (s : State) : (writeWord a w s).regs = s.regs := rfl
@[simp] theorem writeWord_sp (a w : Word) (s : State) : (writeWord a w s).sp = s.sp := rfl
@[simp] theorem writeWord_pc (a w : Word) (s : State) : (writeWord a w s).pc = s.pc := rfl
@[simp] theorem writeWord_flags (a w : Word) (s : State) : (writeWord a w s).flags = s.flags := rfl
@[simp] theorem writeWord_inte (a w : Word) (s : State) : (writeWord a w s).inte = s.inte := rfl
@[simp] theorem writeWord_latches (a w : Word) (s : State) : (writeWord a w s).latches = s.latches := rfl
@[simp] theorem writeWord_mem (a w : Word) (s : State) : (writeWord a w s).mem = Memory.write (Memory.write s.mem a.toNat (lo8 w)) (a + 1).toNat (hi8 w) := rfl
@[simp] theorem writeWord_status (a w : Word) (s : State) : (writeWord a w s).status = s.status := rfl
@[simp] theorem writeWord_cycleCount (a w : Word) (s : State) : (writeWord a w s).cycleCount = s.cycleCount := rfl
@[simp] theorem writeWord_phase (a w : Word) (s : State) : (writeWord a w s).phase = s.phase := rfl

@[simp] theorem push_regs (w : Word) (s : State) : (push w s).regs = s.regs := rfl
@[simp] theorem push_sp (w : Word) (s : State) : (push w s).sp = s.sp - 2 := rfl
@[simp] theorem push_pc (w : Word) (s : State) : (push w s).pc = s.pc := rfl
@[simp] theorem push_flags (w : Word) (s : State) : (push w s).flags = s.flags := rfl
@[simp] theorem push_inte (w : Word) (s : State) : (push w s).inte = s.inte := rfl
@[simp] theorem push_latches (w : Word) (s : State) : (push w s).latches = s.latches := rfl
@[simp] theorem push_mem (w : Word) (s : State) : (push w s).mem = Memory.write (Memory.write s.mem (s.sp - 1).toNat (hi8 w)) (s.sp - 2).toNat (lo8 w) := rfl
@[simp] theorem push_status (w : Word) (s : State) : (push w s).status = s.status := rfl
@[simp] theorem push_cycleCount (w : Word) (s : State) : (push w s).cycleCount = s.cycleCount := rfl
@[simp] theorem push_phase (w : Word) (s : State) : (push w s).phase = s.phase := rfl

@[simp] theorem dropWord_regs (s : State) : (dropWord s).regs = s.regs := rfl
@[simp] theorem dropWord_sp (s : State) : (dropWord s).sp = s.sp + 2 := rfl
@[simp] theorem dropWord_pc (s : State) : (dropWord s).pc = s.pc := rfl
@[simp] theorem dropWord_flags (s : State) : (dropWord s).flags = s.flags := rfl
@[simp] theorem dropWord_inte (s : State) : (dropWord s).inte = s.inte := rfl
@[simp] theorem dropWord_latches (s : State) : (dropWord s).latches = s.latches := rfl
@[simp] theorem dropWord_mem (s : State) : (dropWord s).mem = s.mem := rfl
@[simp] theorem dropWord_status (s : State) : (dropWord s).status = s.status := rfl
@[simp] theorem dropWord_cycleCount (s : State) : (dropWord s).cycleCount = s.cycleCount := rfl
@[simp] theorem dropWord_phase (s : State) : (dropWord s).phase = s.phase := rfl

@[simp] theorem takeInterrupt_regs (n : Nat) (s : State) : (takeInterrupt n s).regs = s.regs := rfl
@[simp] theorem takeInterrupt_sp (n : Nat) (s : State) : (takeInterrupt n s).sp = s.sp - 2 := rfl
@[simp] theorem takeInterrupt_pc (n : Nat) (s : State) : (takeInterrupt n s).pc = restartVector n := rfl
@[simp] theorem takeInterrupt_flags (n : Nat) (s : State) : (takeInterrupt n s).flags = s.flags := rfl
@[simp] theorem takeInterrupt_inte (n : Nat) (s : State) : (takeInterrupt n s).inte = false := rfl
@[simp] theorem takeInterrupt_latches (n : Nat) (s : State) : (takeInterrupt n s).latches = s.latches := rfl
@[simp] theorem takeInterrupt_mem (n : Nat) (s : State) : (takeInterrupt n s).mem = (push s.pc s).mem := rfl
@[simp] theorem takeInterrupt_status (n : Nat) (s : State) : (takeInterrupt n s).status = s.status := rfl
@[simp] theorem takeInterrupt_cycleCount (n : Nat) (s : State) : (takeInterrupt n s).cycleCount = s.cycleCount := rfl
@[simp] theorem takeInterrupt_phase (n : Nat) (s : State) : (takeInterrupt n s).phase = s.phase := rfl

@[simp] theorem beginHalfFrame_regs (s : State) : (beginHalfFrame s).regs = s.regs := rfl
@[simp] theorem beginHalfFrame_sp (s : State) : (beginHalfFrame s).sp = s.sp := rfl
@[simp] theorem beginHalfFrame_pc (s : State) : (beginHalfFrame s).pc = s.pc := rfl
@[simp] theorem beginHalfFrame_flags (s : State) : (beginHalfFrame s).flags = s.flags := rfl
@[simp] theorem beginHalfFrame_inte (s : State) : (beginHalfFrame s).inte = s.inte := rfl
@[simp] theorem beginHalfFrame_latches (s : State) : (beginHalfFrame s).latches = s.latches := rfl
@[simp] theorem beginHalfFrame_mem (s : State) : (beginHalfFrame s).mem = s.mem := rfl
@[simp] theorem beginHalfFrame_status (s : State) : (beginHalfFrame s).status = s.status := rfl
@[simp] theorem beginHalfFrame_cycleCount (s : State) : (beginHalfFrame s).cycleCount = 0 := rfl
@[simp] theorem beginHalfFrame_phase (s : State) : (beginHalfFrame s).phase = s.phase := rfl

end Sys2Proof.Machine
end

