-- ==== Sys2Proof/Laws/Memory.lean ====
section
/-! SUPPORT. The laws of memory: what a read gives after a write, and that every memory operation keeps the
canonical form. -/

namespace Sys2Proof.Machine

/-- A read after a byte is listed. -/
theorem Memory.read_insert (m : Memory) (a b : Nat) (v : Byte) :
    Memory.read (Memory.insert m a v) b = if b = a then v else Memory.read m b := by
  induction m with
  | nil => simp [Memory.insert, Memory.read, eq_comm]
  | cons cell rest ih => grind [Memory.insert, Memory.read]

/-- A read after an address is unlisted. -/
theorem Memory.read_erase (m : Memory) (a b : Nat) :
    Memory.read (Memory.erase m a) b = if b = a then Memory.unlisted else Memory.read m b := by
  induction m with
  | nil => simp [Memory.erase, Memory.read]
  | cons cell rest ih => grind [Memory.erase, Memory.read]

/-- A read after a write, in any memory. -/
theorem Memory.read_write (m : Memory) (a b : Nat) (v : Byte) :
    Memory.read (Memory.write m a v) b = if b = a then v else Memory.read m b := by
  unfold Memory.write
  split_ifs with hv hb <;> simp [Memory.read_insert, Memory.read_erase, *]

/-- The canonical form from a bound on is the canonical form from any lower bound on. -/
theorem Memory.wfFrom_mono (m : Memory) {x y : Nat} (hxy : y ≤ x) (h : Memory.wfFrom x m = true) :
    Memory.wfFrom y m = true := by
  cases m with
  | nil => rfl
  | cons c r =>
    simp only [Memory.wfFrom, Bool.and_eq_true, decide_eq_true_eq] at h ⊢
    exact ⟨⟨⟨by omega, h.1.1.2⟩, h.1.2⟩, h.2⟩

/-- Unlisting keeps the canonical form. -/
theorem Memory.erase_wfFrom (m : Memory) (low a : Nat) (h : Memory.wfFrom low m = true) :
    Memory.wfFrom low (Memory.erase m a) = true := by
  induction m generalizing low with
  | nil => rfl
  | cons cell rest ih =>
    simp only [Memory.wfFrom, Bool.and_eq_true, decide_eq_true_eq] at h
    rw [Memory.erase]
    split_ifs with hc
    · exact ih _ (Memory.wfFrom_mono _ (by omega) h.2)
    · simp only [Memory.wfFrom, Bool.and_eq_true, decide_eq_true_eq]
      exact ⟨h.1, ih _ h.2⟩

/-- Listing a byte inside the address space that is not what an unlisted address reads as keeps the canonical
form. -/
theorem Memory.insert_wfFrom (m : Memory) (low a : Nat) (v : Byte) (h : Memory.wfFrom low m = true)
    (hl : low ≤ a) (ha : a < 65536) (hv : v ≠ Memory.unlisted) :
    Memory.wfFrom low (Memory.insert m a v) = true := by
  induction m generalizing low with
  | nil => simp [Memory.insert, Memory.wfFrom, hl, ha, hv]
  | cons cell rest ih =>
    simp only [Memory.wfFrom, Bool.and_eq_true, decide_eq_true_eq] at h
    rw [Memory.insert]
    split_ifs with h1 h2
    · simp only [Memory.wfFrom, Bool.and_eq_true, decide_eq_true_eq]
      exact ⟨⟨⟨hl, ha⟩, hv⟩, ⟨⟨by omega, h.1.1.2⟩, h.1.2⟩, h.2⟩
    · simp only [Memory.wfFrom, Bool.and_eq_true, decide_eq_true_eq]
      exact ⟨⟨⟨hl, ha⟩, hv⟩, by rw [h2]; exact h.2⟩
    · simp only [Memory.wfFrom, Bool.and_eq_true, decide_eq_true_eq]
      exact ⟨h.1, ih _ h.2 (by omega)⟩

/-- A write inside the address space keeps the canonical form. -/
theorem Memory.write_wf (m : Memory) (a : Nat) (v : Byte) (h : Memory.wf m = true) (ha : a < 65536) :
    Memory.wf (Memory.write m a v) = true := by
  unfold Memory.write
  split_ifs with hv
  · exact Memory.erase_wfFrom _ _ _ h
  · exact Memory.insert_wfFrom _ _ _ _ h (Nat.zero_le _) ha hv

/-- `writeByte` keeps the canonical form. -/
theorem writeByte_wf (a : Word) (v : Byte) (s : State) (h : Memory.wf s.mem = true) :
    Memory.wf (writeByte a v s).mem = true :=
  Memory.write_wf _ _ _ h a.isLt

/-- `writeWord` keeps the canonical form. -/
theorem writeWord_wf (a w : Word) (s : State) (h : Memory.wf s.mem = true) :
    Memory.wf (writeWord a w s).mem = true :=
  writeByte_wf _ _ _ (writeByte_wf _ _ _ h)

/-- `push` keeps the canonical form. -/
theorem push_wf (w : Word) (s : State) (h : Memory.wf s.mem = true) : Memory.wf (push w s).mem = true :=
  writeByte_wf _ _ _ (writeByte_wf _ _ _ h)

/-- `writeOpnd` keeps the canonical form. -/
theorem writeOpnd_wf (o : Opnd) (v : Byte) (s : State) (h : Memory.wf s.mem = true) :
    Memory.wf (writeOpnd o v s).mem = true := by
  cases o with
  | reg r => exact h
  | m => exact writeByte_wf _ _ _ h

/-- `writeBytes` keeps the canonical form. -/
theorem writeBytes_wf (bytes : List Byte) (a : Word) (s : State) (h : Memory.wf s.mem = true) :
    Memory.wf (writeBytes a bytes s).mem = true := by
  induction bytes generalizing a s with
  | nil => exact h
  | cons v rest ih => exact ih _ _ (writeByte_wf _ _ _ h)

/-- A read depends on memory alone. -/
theorem readByte_of_mem_eq (a : Word) {s t : State} (h : t.mem = s.mem) : readByte a t = readByte a s := by
  simp [readByte, h]

end Sys2Proof.Machine
end

