-- ==== Sys2Proof/Laws/Ops.lean ====
section
/-! SUPPORT. One lemma for each shared operation: the bytes of a word, registers and pairs, what a read gives after
each store, and what the scheduler's pieces do. -/

namespace Sys2Proof

/-! ## The bytes of a word -/

theorem joinBytes_toNat (hi lo : Byte) : (joinBytes hi lo).toNat = hi.toNat * 256 + lo.toNat := by
  have h := lo.isLt
  rw [joinBytes, BitVec.toNat_append, ← Nat.shiftLeft_add_eq_or_of_lt h, Nat.shiftLeft_eq]

theorem lo8_toNat (w : Word) : (lo8 w).toNat = w.toNat % 256 := by
  simp [lo8]

theorem hi8_toNat (w : Word) : (hi8 w).toNat = w.toNat / 256 := by
  have h := w.isLt
  simp only [hi8, BitVec.extractLsb'_toNat, Nat.shiftRight_eq_div_pow]
  omega

@[simp] theorem lo8_joinBytes (hi lo : Byte) : lo8 (joinBytes hi lo) = lo := by
  have h := lo.isLt
  apply BitVec.eq_of_toNat_eq
  rw [lo8_toNat, joinBytes_toNat]
  omega

@[simp] theorem hi8_joinBytes (hi lo : Byte) : hi8 (joinBytes hi lo) = hi := by
  have h := lo.isLt
  apply BitVec.eq_of_toNat_eq
  rw [hi8_toNat, joinBytes_toNat]
  omega

@[simp] theorem joinBytes_hi8_lo8 (w : Word) : joinBytes (hi8 w) (lo8 w) = w := by
  apply BitVec.eq_of_toNat_eq
  rw [joinBytes_toNat, hi8_toNat, lo8_toNat]
  omega

namespace Machine

/-! ## Registers and pairs -/

/-- What `regsWith` does, read through any register. -/
theorem getReg_setReg (r q : Reg) (v : Byte) (s : State) :
    getReg q (setReg r v s) = if q = r then v else getReg q s := by
  cases r <;> cases q <;> rfl

theorem pairHigh_ne_pairLow (p : Pair) : pairHigh p ≠ pairLow p := by
  cases p <;> decide

/-- What `setPair` does, read through any register. -/
theorem getReg_setPair (p : Pair) (w : Word) (q : Reg) (s : State) :
    getReg q (setPair p w s) = if q = pairLow p then lo8 w else if q = pairHigh p then hi8 w else getReg q s := by
  rw [setPair, getReg_setReg, getReg_setReg]

@[simp] theorem getPair_setPair_same (p : Pair) (w : Word) (s : State) : getPair p (setPair p w s) = w := by
  rw [getPair, getReg_setPair, getReg_setPair, if_neg (pairHigh_ne_pairLow p), if_pos rfl, if_pos rfl,
    joinBytes_hi8_lo8]

/-- A register read depends on the register file alone. -/
theorem getReg_of_regs_eq (q : Reg) {s t : State} (h : t.regs = s.regs) : getReg q t = getReg q s := by
  cases q <;> simp [getReg, h]

/-! ## Register and memory reads through the updates that do not touch them -/

@[simp] theorem getReg_advance (len : Word) (q : Reg) (s : State) : getReg q (advance len s) = getReg q s :=
  getReg_of_regs_eq q rfl
@[simp] theorem getReg_jump (w : Word) (q : Reg) (s : State) : getReg q (jump w s) = getReg q s :=
  getReg_of_regs_eq q rfl
@[simp] theorem getReg_setFlags (f : Flags) (q : Reg) (s : State) : getReg q (setFlags f s) = getReg q s :=
  getReg_of_regs_eq q rfl
@[simp] theorem getReg_setInte (on : Bool) (q : Reg) (s : State) : getReg q (setInte on s) = getReg q s :=
  getReg_of_regs_eq q rfl
@[simp] theorem getReg_setStatus (st : Status) (q : Reg) (s : State) : getReg q (setStatus st s) = getReg q s :=
  getReg_of_regs_eq q rfl
@[simp] theorem getReg_push (w : Word) (q : Reg) (s : State) : getReg q (push w s) = getReg q s :=
  getReg_of_regs_eq q rfl
@[simp] theorem getReg_dropWord (q : Reg) (s : State) : getReg q (dropWord s) = getReg q s :=
  getReg_of_regs_eq q rfl
@[simp] theorem getReg_writeByte (a : Word) (v : Byte) (q : Reg) (s : State) : getReg q (writeByte a v s) = getReg q s :=
  getReg_of_regs_eq q rfl
@[simp] theorem getReg_writeWord (a w : Word) (q : Reg) (s : State) : getReg q (writeWord a w s) = getReg q s :=
  getReg_of_regs_eq q rfl
@[simp] theorem readByte_advance (len : Word) (b : Word) (s : State) : readByte b (advance len s) = readByte b s :=
  readByte_of_mem_eq b rfl
@[simp] theorem readByte_jump (w : Word) (b : Word) (s : State) : readByte b (jump w s) = readByte b s :=
  readByte_of_mem_eq b rfl
@[simp] theorem readByte_setFlags (f : Flags) (b : Word) (s : State) : readByte b (setFlags f s) = readByte b s :=
  readByte_of_mem_eq b rfl
@[simp] theorem readByte_setInte (on : Bool) (b : Word) (s : State) : readByte b (setInte on s) = readByte b s :=
  readByte_of_mem_eq b rfl
@[simp] theorem readByte_setStatus (st : Status) (b : Word) (s : State) : readByte b (setStatus st s) = readByte b s :=
  readByte_of_mem_eq b rfl
@[simp] theorem readByte_dropWord (b : Word) (s : State) : readByte b (dropWord s) = readByte b s :=
  readByte_of_mem_eq b rfl
@[simp] theorem readByte_setReg (r : Reg) (v : Byte) (b : Word) (s : State) : readByte b (setReg r v s) = readByte b s :=
  readByte_of_mem_eq b rfl
@[simp] theorem readByte_setPair (p : Pair) (w : Word) (b : Word) (s : State) : readByte b (setPair p w s) = readByte b s :=
  readByte_of_mem_eq b rfl


/-! ## Reads after stores -/

theorem readByte_writeByte_at (a b : Word) (v : Byte) (s : State) :
    readByte b (writeByte a v s) = if b.toNat = a.toNat then v else readByte b s := by
  simp [readByte, Memory.read_write]

/-- What `writeWord` does, read at any address. -/
theorem readByte_writeWord_at (a b w : Word) (s : State) :
    readByte b (writeWord a w s) = if b = a + 1 then hi8 w else if b = a then lo8 w else readByte b s := by
  simp only [writeWord, readByte_writeByte_at, BitVec.toNat_inj]

/-- What `push` does, read at any address. -/
theorem readByte_push_at (b w : Word) (s : State) :
    readByte b (push w s) = if b = s.sp - 2 then lo8 w else if b = s.sp - 1 then hi8 w else readByte b s := by
  show readByte b (writeByte (s.sp - 2) (lo8 w) (writeByte (s.sp - 1) (hi8 w) s)) = _
  simp only [readByte_writeByte_at, BitVec.toNat_inj]

/-- The word at the top of the stack depends on memory and SP alone. -/
theorem topWord_of_eq {s t : State} (hm : t.mem = s.mem) (hsp : t.sp = s.sp) : topWord t = topWord s := by
  simp [topWord, readWord, readByte, hm, hsp]

/-- A pop reads the word pushed last. -/
theorem topWord_push (w : Word) (s : State) : topWord (push w s) = w := by
  have h1 : s.sp - 2 + 1 = s.sp - 1 := by bv_omega
  have h2 : s.sp - 1 ≠ s.sp - 2 := by bv_omega
  rw [topWord, readWord, push_sp, h1, readByte_push_at, readByte_push_at, if_neg h2, if_pos rfl, if_pos rfl,
    joinBytes_hi8_lo8]

/-! ## Ports -/

/-- Everything a write to a port can do, its events included. -/
theorem portWrite_cases (p v : Byte) (s : State) :
    (p.toNat = 2 ∧ portWrite p v s =
      some ({ s with latches := { s.latches with shiftOffset := v.extractLsb' 0 3 } }, [])) ∨
    (p.toNat = 3 ∧ portWrite p v s = some ({ s with latches := { s.latches with out3 := v } }, [⟨3, v⟩])) ∨
    (p.toNat = 4 ∧ portWrite p v s =
      some ({ s with latches := { s.latches with shift0 := s.latches.shift1, shift1 := v } }, [])) ∨
    (p.toNat = 5 ∧ portWrite p v s = some ({ s with latches := { s.latches with out5 := v } }, [⟨5, v⟩])) ∨
    (p.toNat = 6 ∧ portWrite p v s = some (s, [])) ∨
    (p.toNat ∉ [2, 3, 4, 5, 6] ∧ portWrite p v s = none) := by
  unfold portWrite
  split <;> simp_all

/-- The events an OUT emits, without the state: one for port 3 and port 5, none for any other. -/
theorem outEvents_eq (p v : Byte) (s : State) :
    outEvents p v s = if p = 3 ∨ p = 5 then [⟨p, v⟩] else [] := by
  by_cases h3 : p = 3
  · subst h3; rfl
  by_cases h5 : p = 5
  · subst h5; rfl
  have h3' : p.toNat ≠ 3 := fun h => h3 (BitVec.eq_of_toNat_eq h)
  have h5' : p.toNat ≠ 5 := fun h => h5 (BitVec.eq_of_toNat_eq h)
  rw [if_neg fun h => h.elim h3 h5]
  rcases portWrite_cases p v s with ⟨-, h⟩ | ⟨hp, -⟩ | ⟨-, h⟩ | ⟨hp, -⟩ | ⟨-, h⟩ | ⟨-, h⟩
  all_goals first | exact absurd hp h3' | exact absurd hp h5' | rw [outEvents, h]

/-! ## A run of bytes -/

/-- What `writeBytes` does, read at any address: the byte `b - a` of the list where there is one. Of a list longer
than the address space, the later bytes would overwrite the earlier. -/
theorem readByte_writeBytes_at (bytes : List Byte) (a b : Word) (s : State) (h : bytes.length ≤ 65536) :
    readByte b (writeBytes a bytes s) = (bytes[(b - a).toNat]?).getD (readByte b s) := by
  induction bytes generalizing a s with
  | nil => rfl
  | cons v rest ih =>
    simp only [List.length_cons] at h
    rw [writeBytes, ih _ _ (by omega), readByte_writeByte_at]
    by_cases hb : b = a
    · subst hb
      have h1 : (b - (b + 1)).toNat = 65535 := by bv_omega
      rw [h1, List.getElem?_eq_none (by omega)]
      simp
    · have h1 : (b - a).toNat = (b - (a + 1)).toNat + 1 := by bv_omega
      rw [h1, List.getElem?_cons_succ, if_neg (by rwa [BitVec.toNat_inj])]

/-- `writeBytes` changes memory alone. -/
theorem writeBytes_eq (bytes : List Byte) (a : Word) (s : State) :
    writeBytes a bytes s = { s with mem := (writeBytes a bytes s).mem } := by
  induction bytes generalizing a s with
  | nil => rfl
  | cons v rest ih =>
    rw [writeBytes]
    conv_lhs => rw [ih]
    rfl

/-! ## The scheduler's pieces -/

/-- Opening a step changes the count at most. -/
theorem openStep_eq (cfg : Config) (s : State) : openStep cfg s =
    if cfg.halfFrameCycles ≤ s.cycleCount then { s with cycleCount := 0 } else s := rfl

/-- Inside a half-frame, opening a step does nothing. -/
theorem openStep_of_lt {cfg : Config} {s : State} (h : s.cycleCount < cfg.halfFrameCycles) : openStep cfg s = s := by
  rw [openStep_eq, if_neg (by omega)]

/-- Opening a step keeps the status. -/
@[simp] theorem openStep_status (cfg : Config) (s : State) : (openStep cfg s).status = s.status := by
  rw [openStep_eq]; split <;> rfl

/-- Opening a step keeps memory. -/
@[simp] theorem openStep_mem (cfg : Config) (s : State) : (openStep cfg s).mem = s.mem := by
  rw [openStep_eq]; split <;> rfl

/-- Opening a step keeps PC. -/
@[simp] theorem openStep_pc (cfg : Config) (s : State) : (openStep cfg s).pc = s.pc := by
  rw [openStep_eq]; split <;> rfl

/-- The boundary keeps every register, flag and latch, the count and the status. -/
theorem halfFrameBoundary_keeps (s : State) :
    (halfFrameBoundary s).regs = s.regs ∧ (halfFrameBoundary s).flags = s.flags ∧
      (halfFrameBoundary s).latches = s.latches ∧ (halfFrameBoundary s).cycleCount = s.cycleCount ∧
      (halfFrameBoundary s).status = s.status := by
  unfold halfFrameBoundary
  split <;> simp

/-- The boundary keeps the canonical form of memory. -/
theorem halfFrameBoundary_wf (s : State) (h : Memory.wf s.mem = true) :
    Memory.wf (halfFrameBoundary s).mem = true := by
  unfold halfFrameBoundary
  split
  · exact push_wf _ _ h
  · exact h

end Machine

end Sys2Proof
end

