-- ==== Sys2Proof/Laws/Exec.lean ====
section
/-! SUPPORT. The meaning of every instruction by its form: `exec` of a row is the meaning of its form at this
machine's configuration. A proof about all instructions goes through a form and its operands instead of the 256
rows. -/

namespace Sys2Proof.Machine

/-- `exec` of any instruction is the meaning of its form. -/
theorem exec_eq_formMeaning (i : Instr) (s : State) : exec i s = formMeaning config (formOf i) s := by
  cases i <;> rfl

/-- `exec` is the instance of `execWith` at this machine's configuration. -/
theorem exec_eq_execWith (i : Instr) (s : State) : exec i s = execWith config i s := exec_eq_formMeaning i s

/-- The form of the row a form names is that form. -/
theorem formOf_instrOf (f : Form) : formOf (instrOf f) = f := by
  cases f with
  | movRR dst src => cases dst <;> cases src <;> rfl
  | movRM dst => cases dst <;> rfl
  | movMR src => cases src <;> rfl
  | mvi o v => rcases o with ⟨⟨⟩⟩ | _ <;> rfl
  | lxi rp w => rcases rp with ⟨⟨⟩⟩ | _ <;> rfl
  | ldax p => cases p <;> rfl
  | stax p => cases p <;> rfl
  | alu k o => cases k <;> rcases o with ⟨⟨⟩⟩ | _ <;> rfl
  | aluImm k v => cases k <;> rfl
  | inr o => rcases o with ⟨⟨⟩⟩ | _ <;> rfl
  | dcr o => rcases o with ⟨⟨⟩⟩ | _ <;> rfl
  | inx rp => rcases rp with ⟨⟨⟩⟩ | _ <;> rfl
  | dcx rp => rcases rp with ⟨⟨⟩⟩ | _ <;> rfl
  | dad rp => rcases rp with ⟨⟨⟩⟩ | _ <;> rfl
  | jcc cond a => cases cond <;> rfl
  | ccc cond a => cases cond <;> rfl
  | rcc cond => cases cond <;> rfl
  | rst n => fin_cases n <;> rfl
  | push p => cases p <;> rfl
  | pop p => cases p <;> rfl
  | undocumented u => cases u <;> rfl
  | _ => rfl

/-- `exec` of the row a form names is the form's meaning. -/
theorem exec_instrOf (f : Form) (s : State) : exec (instrOf f) s = formMeaning config f s := by
  rw [exec_eq_formMeaning, formOf_instrOf]

/-- The same in any configuration. -/
theorem execWith_instrOf (cfg : Config) (f : Form) (s : State) : execWith cfg (instrOf f) s = formMeaning cfg f s := by
  rw [execWith, formOf_instrOf]

/-- The events of the row a form names. -/
theorem execEvents_instrOf (f : Form) (s : State) : execEvents (instrOf f) s = formEvents f s := by
  rw [execEvents, formOf_instrOf]

/-- Every instruction is the row its form names. -/
theorem instrOf_formOf (i : Instr) : instrOf (formOf i) = i := by
  cases i <;> rfl

end Sys2Proof.Machine
end

