-- ==== Sys2Proof/Laws/Step.lean ====
section
/-! SUPPORT. Everything a step can do, said once for the core's step and once for the step with the scheduler
around it, in any configuration. -/

namespace Sys2Proof.Machine

/-- An instruction that answers a next state, with what its step reports. -/
theorem runInstr_of_next {cfg : Config} {i : Instr} {s t : State} (op : Byte) (h : execWith cfg i s = .next t) :
    runInstr cfg op i s =
      .next { cpu := t, cycles := reportedCycles cfg op s.flags t.status, events := execEvents i s } := by
  simp [runInstr, h]

/-- What a core step that answers an output has done: it ran the instruction at PC, or its byte has no handler. -/
theorem coreStep_cases {cfg : Config} {s : State} {out : StepOutput} (h : coreStep cfg s = .next out) :
    s.status = .running ∧
      ((cfg.implemented (fetchOpcode s) = true ∧ execWith cfg (fetchInstr s) s = .next out.cpu ∧
          out.cycles = reportedCycles cfg (fetchOpcode s) s.flags out.cpu.status ∧
          out.events = execEvents (fetchInstr s) s) ∨
        (cfg.implemented (fetchOpcode s) = false ∧
          out = { cpu := setStatus (.unimplemented (fetchOpcode s)) s, cycles := 0, events := [] })) := by
  unfold coreStep at h
  split at h
  · rename_i hs
    refine ⟨hs, ?_⟩
    split at h
    · rename_i hi
      unfold runInstr at h
      split at h <;> simp only [Host.Outcome.next.injEq, reduceCtorEq] at h
      subst h
      exact .inl ⟨hi, by assumption, rfl, rfl⟩
    · rename_i hi
      simp only [Host.Outcome.next.injEq] at h
      exact .inr ⟨by simpa using hi, h.symm⟩
  · cases h

/-- A core step in a terminal status. -/
theorem coreStep_of_terminal (cfg : Config) {s : State} (h : s.status ≠ .running) :
    coreStep cfg s = .fault (.runEnded s.status) := by
  unfold coreStep
  split <;> simp_all

/-- The core step of a byte with a handler. -/
theorem coreStep_of_implemented {cfg : Config} {s : State} (hs : s.status = .running)
    (hi : cfg.implemented (fetchOpcode s) = true) :
    coreStep cfg s = runInstr cfg (fetchOpcode s) (fetchInstr s) s := by
  simp [coreStep, hs, hi]

/-- The core step of a byte without a handler. -/
theorem coreStep_of_unimplemented {cfg : Config} {s : State} (hs : s.status = .running)
    (hi : cfg.implemented (fetchOpcode s) = false) :
    coreStep cfg s = .next { cpu := setStatus (.unimplemented (fetchOpcode s)) s, cycles := 0, events := [] } := by
  simp [coreStep, hs, hi]

/-- The step around a core step. -/
theorem stepOutput_of_next {cfg : Config} {s : State} {out : StepOutput}
    (h : coreStep cfg (openStep cfg s) = .next out) :
    stepOutput cfg s = .next { out with cpu := closeStep cfg out.cycles out.cpu } := by
  simp [stepOutput, h]

/-- The state after the step around a core step. -/
theorem stepWith_of_next {cfg : Config} {s : State} {out : StepOutput}
    (h : coreStep cfg (openStep cfg s) = .next out) :
    stepWith cfg s = .next (closeStep cfg out.cycles out.cpu) := by
  simp [stepWith, stepOutput_of_next h]

/-- A step that answers a next state is a core step with the scheduler around it. -/
theorem stepWith_cases {cfg : Config} {s t : State} (h : stepWith cfg s = .next t) :
    ∃ out, coreStep cfg (openStep cfg s) = .next out ∧ t = closeStep cfg out.cycles out.cpu := by
  unfold stepWith stepOutput at h
  split at h <;> simp only [Host.Outcome.next.injEq, reduceCtorEq] at h
  rename_i o ho
  split at ho <;> simp only [Host.Outcome.next.injEq, reduceCtorEq] at ho
  rename_i out hout
  exact ⟨out, hout, by rw [← h, ← ho]⟩

end Sys2Proof.Machine
end

