-- ==== Sys2Proof/Laws/HalfFrame.lean ====
section
/-! SUPPORT. The loop of a half-frame: its first step, and that a bound it does not reach is of no account. -/

namespace Sys2Proof.Machine

/-- The test of the loop, as a proposition. -/
theorem inHalfFrame_iff (cfg : Config) (s : State) :
    inHalfFrame cfg s = true ↔ s.status = .running ∧ s.cycleCount < cfg.halfFrameCycles := by
  simp [inHalfFrame]

/-- One round of the loop. -/
theorem runUntilBoundary_succ {cfg : Config} {s : State} {out : StepOutput} (fuel : Nat) (events : List PortEvent)
    (h : stepOutput cfg s = .next out) :
    runUntilBoundary cfg (fuel + 1) events s =
      if inHalfFrame cfg out.cpu then runUntilBoundary cfg fuel (events ++ out.events) out.cpu
      else .next { cpu := out.cpu, events := events ++ out.events } := by
  simp [runUntilBoundary, h]

/-- A loop that is finished answers the same with any greater bound. -/
theorem runUntilBoundary_of_finished {cfg : Config} {n m : Nat} {events : List PortEvent} {s : State}
    {out : HalfFrameOutput} (hs : inHalfFrame cfg s = true) (h : runUntilBoundary cfg n events s = .next out)
    (hf : inHalfFrame cfg out.cpu = false) (hnm : n ≤ m) : runUntilBoundary cfg m events s = .next out := by
  induction n generalizing m events s with
  | zero =>
    cases h
    simp [hs] at hf
  | succ n ih =>
    obtain ⟨m, rfl⟩ : ∃ k, m = k + 1 := ⟨m - 1, by omega⟩
    rw [runUntilBoundary] at h ⊢
    split at h
    · split at h
      · rename_i hin
        simpa [hin] using ih hin h (by omega)
      · rename_i hin
        simpa [hin] using h
    · cases h
    · cases h

/-- Opening a half-frame whose budget is not empty enters its loop. -/
theorem inHalfFrame_beginHalfFrame {cfg : Config} {s : State} (hs : s.status = .running)
    (hb : cfg.halfFrameCycles ≠ 0) : inHalfFrame cfg (beginHalfFrame s) = true := by
  rw [inHalfFrame_iff]
  exact ⟨hs, by show 0 < _; omega⟩

/-- A half-frame in a terminal status. -/
theorem runHalfFrameFor_of_terminal (cfg : Config) (bound : Nat) {s : State} (h : s.status ≠ .running) :
    runHalfFrameFor cfg bound s = .fault (.runEnded s.status) := by
  unfold runHalfFrameFor
  split <;> simp_all

/-- A half-frame with an empty budget is its boundary. -/
theorem runHalfFrameFor_of_empty {cfg : Config} (bound : Nat) {s : State} (hs : s.status = .running)
    (hb : cfg.halfFrameCycles = 0) :
    runHalfFrameFor cfg bound s = .next { cpu := halfFrameBoundary (beginHalfFrame s), events := [] } := by
  simp [runHalfFrameFor, hs, hb]

/-- A half-frame with a budget is its loop. -/
theorem runHalfFrameFor_of_budget {cfg : Config} (bound : Nat) {s : State} (hs : s.status = .running)
    (hb : cfg.halfFrameCycles ≠ 0) :
    runHalfFrameFor cfg bound s = runUntilBoundary cfg bound [] (beginHalfFrame s) := by
  simp [runHalfFrameFor, hs, hb]

end Sys2Proof.Machine
end

