-- ==== Sys2Proof/Tests/Slice0.lean ====
section
/-! SUPPORT. The model's own tests: the ill-formed terms the checks refuse, the decoding of every opcode byte
against the opcode map (30_encoding.md R130), single steps against the vectors of 95_test_vectors.md, and for every
statement with hypotheses a state that meets them. Expected values come from the spec, never from the model. -/

namespace Sys2Proof.Tests

open Sys2Proof.Machine

/-! ## Well-formedness -/

/-- R131: an undocumented byte spells no instruction. -/
theorem test_undocumented_is_ill_formed : Instr.undocumentedCB.wellFormed = false := by decide

theorem test_documented_is_well_formed : Instr.hlt.wellFormed = true := by decide

/-- Two flags at one place. -/
theorem test_layout_with_shared_place_is_ill_formed :
    ({ s := 7, z := 7, ac := 4, p := 2, cy := 0, fixed := 0x02 } : PswLayout).wellFormed = false := by decide

/-- A fixed 1 where a flag stands. -/
theorem test_layout_with_fixed_flag_is_ill_formed :
    ({ s := 7, z := 6, ac := 4, p := 2, cy := 0, fixed := 0x03 } : PswLayout).wellFormed = false := by decide

theorem test_intel_layout_is_well_formed : intelPswLayout.wellFormed = true := by decide

theorem test_config_is_well_formed : config.wellFormed = true := by decide

theorem test_empty_half_frame_is_ill_formed : { config with halfFrameCycles := 0 }.wellFormed = false := by decide

/-- An opcode that costs nothing. -/
theorem test_free_opcode_is_ill_formed :
    { config with cycles := fun op => if op = 0x00 then 0 else 4 }.wellFormed = false := by decide

theorem test_handler_for_undocumented_byte_is_ill_formed :
    { config with implemented := fun _ => true, cycles := fun _ => 4 }.wellFormed = false := by decide

theorem test_config_with_bad_layout_is_ill_formed :
    { config with pswLayout := { intelPswLayout with fixed := 0xFF } }.wellFormed = false := by decide

theorem test_rom_of_65537_bytes_is_ill_formed : romWellFormed (List.replicate 65537 0) = false := by
  rw [romWellFormed, List.length_replicate]; decide

theorem test_rom_of_65536_bytes_is_well_formed : romWellFormed (List.replicate 65536 0) = true := by
  rw [romWellFormed, List.length_replicate]; decide

/-- Memory out of order, listed twice, listing a 0, or outside the address space. -/
theorem test_memory_form_is_checked :
    Memory.wf [(1, 5), (0, 5)] = false ∧ Memory.wf [(1, 5), (1, 6)] = false ∧ Memory.wf [(1, 0)] = false ∧
      Memory.wf [(65536, 5)] = false ∧ Memory.wf [(0, 5), (65535, 6)] = true := by decide

/-! ## Decoding

The sixteen rows of R130's map, with the operand bytes 0x34 and 0x12: a one-byte operand is 0x34, a two-byte operand
is 0x1234, low byte first (R123). -/

/-- The instructions of one row of the opcode map. -/
def mapRow (first : Nat) : List Instr :=
  (List.range 16).map fun k => decodeInstr (BitVec.ofNat 8 (first + k)) 0x34 0x12

theorem test_decode_row_0 : mapRow 0x00 =
    [.nop, .lxiB 0x1234, .staxB, .inxB, .inrB, .dcrB, .mviB 0x34, .rlc, .undocumented08, .dadB, .ldaxB, .dcxB,
     .inrC, .dcrC, .mviC 0x34, .rrc] := by
  decide

theorem test_decode_row_1 : mapRow 0x10 =
    [.undocumented10, .lxiD 0x1234, .staxD, .inxD, .inrD, .dcrD, .mviD 0x34, .ral, .undocumented18, .dadD,
     .ldaxD, .dcxD, .inrE, .dcrE, .mviE 0x34, .rar] := by
  decide

theorem test_decode_row_2 : mapRow 0x20 =
    [.undocumented20, .lxiH 0x1234, .shld 0x1234, .inxH, .inrH, .dcrH, .mviH 0x34, .daa, .undocumented28,
     .dadH, .lhld 0x1234, .dcxH, .inrL, .dcrL, .mviL 0x34, .cma] := by
  decide

theorem test_decode_row_3 : mapRow 0x30 =
    [.undocumented30, .lxiSP 0x1234, .sta 0x1234, .inxSP, .inrM, .dcrM, .mviM 0x34, .stc, .undocumented38,
     .dadSP, .lda 0x1234, .dcxSP, .inrA, .dcrA, .mviA 0x34, .cmc] := by
  decide

theorem test_decode_row_4 : mapRow 0x40 =
    [.movBB, .movBC, .movBD, .movBE, .movBH, .movBL, .movBM, .movBA, .movCB, .movCC, .movCD, .movCE, .movCH,
     .movCL, .movCM, .movCA] := by
  decide

theorem test_decode_row_5 : mapRow 0x50 =
    [.movDB, .movDC, .movDD, .movDE, .movDH, .movDL, .movDM, .movDA, .movEB, .movEC, .movED, .movEE, .movEH,
     .movEL, .movEM, .movEA] := by
  decide

theorem test_decode_row_6 : mapRow 0x60 =
    [.movHB, .movHC, .movHD, .movHE, .movHH, .movHL, .movHM, .movHA, .movLB, .movLC, .movLD, .movLE, .movLH,
     .movLL, .movLM, .movLA] := by
  decide

theorem test_decode_row_7 : mapRow 0x70 =
    [.movMB, .movMC, .movMD, .movME, .movMH, .movML, .hlt, .movMA, .movAB, .movAC, .movAD, .movAE, .movAH,
     .movAL, .movAM, .movAA] := by
  decide

theorem test_decode_row_8 : mapRow 0x80 =
    [.addB, .addC, .addD, .addE, .addH, .addL, .addM, .addA, .adcB, .adcC, .adcD, .adcE, .adcH, .adcL, .adcM,
     .adcA] := by
  decide

theorem test_decode_row_9 : mapRow 0x90 =
    [.subB, .subC, .subD, .subE, .subH, .subL, .subM, .subA, .sbbB, .sbbC, .sbbD, .sbbE, .sbbH, .sbbL, .sbbM,
     .sbbA] := by
  decide

theorem test_decode_row_A : mapRow 0xA0 =
    [.anaB, .anaC, .anaD, .anaE, .anaH, .anaL, .anaM, .anaA, .xraB, .xraC, .xraD, .xraE, .xraH, .xraL, .xraM,
     .xraA] := by
  decide

theorem test_decode_row_B : mapRow 0xB0 =
    [.oraB, .oraC, .oraD, .oraE, .oraH, .oraL, .oraM, .oraA, .cmpB, .cmpC, .cmpD, .cmpE, .cmpH, .cmpL, .cmpM,
     .cmpA] := by
  decide

theorem test_decode_row_C : mapRow 0xC0 =
    [.rnz, .popB, .jnz 0x1234, .jmp 0x1234, .cnz 0x1234, .pushB, .adi 0x34, .rst0, .rz, .ret, .jz 0x1234,
     .undocumentedCB, .cz 0x1234, .call 0x1234, .aci 0x34, .rst1] := by
  decide

theorem test_decode_row_D : mapRow 0xD0 =
    [.rnc, .popD, .jnc 0x1234, .outPort 0x34, .cnc 0x1234, .pushD, .sui 0x34, .rst2, .rc, .undocumentedD9,
     .jc 0x1234, .inPort 0x34, .cc 0x1234, .undocumentedDD, .sbi 0x34, .rst3] := by
  decide

theorem test_decode_row_E : mapRow 0xE0 =
    [.rpo, .popH, .jpo 0x1234, .xthl, .cpo 0x1234, .pushH, .ani 0x34, .rst4, .rpe, .pchl, .jpe 0x1234, .xchg,
     .cpe 0x1234, .undocumentedED, .xri 0x34, .rst5] := by
  decide

theorem test_decode_row_F : mapRow 0xF0 =
    [.rp, .popPSW, .jp 0x1234, .di, .cp 0x1234, .pushPSW, .ori 0x34, .rst6, .rm, .sphl, .jm 0x1234, .ei,
     .cm 0x1234, .undocumentedFD, .cpi 0x34, .rst7] := by
  decide

/-! ### Words written out bit by bit from the formats of R122, one for each family -/

/-- MOV `01 ddd sss`: D is 010, M is 110. -/
theorem test_word_mov : decode [0b01010110] = .ok (.movDM, []) := by decide

/-- LXI `00 pp 0001`: SP is 11; low byte first. -/
theorem test_word_lxi : decode [0b00110001, 0x00, 0x24] = .ok (.lxiSP 0x2400, []) := by decide

/-- ALU `10 aaa sss`: SBB is 011, E is 011. -/
theorem test_word_alu : decode [0b10011011] = .ok (.sbbE, []) := by decide

/-- ALU immediate `11 aaa 110`: CPI is 111. -/
theorem test_word_alu_immediate : decode [0b11111110, 0x4A, 0x99] = .ok (.cpi 0x4A, [0x99]) := by decide

/-- DAD `00 pp 1001`: HL is 10. -/
theorem test_word_dad : decode [0b00101001] = .ok (.dadH, []) := by decide

/-- A conditional call `11 ccc 100`: PE is 101. -/
theorem test_word_call : decode [0b11101100, 0x00, 0x0A] = .ok (.cpe 0x0A00, []) := by decide

/-- RST `11 nnn 111`. -/
theorem test_word_rst : decode [0b11010111] = .ok (.rst2, []) := by decide

/-- PUSH `11 pp 0101`: PSW is 11. -/
theorem test_word_push : decode [0b11110101] = .ok (.pushPSW, []) := by decide

/-- A word of the opcode table: the second byte is bits 15 to 8. -/
theorem test_table_word : decodeTableWord 24 0x1234C3 = some (.jmp 0x1234) ∧
    decodeTableWord 8 0xC3 = some (.jmp 0) ∧ decodeTableWord 16 0x0242D3 = some (.outPort 0x42) := by decide

/-- A missing operand byte is refused by name. -/
theorem test_missing_operand : decode [] = .error .noOpcode ∧ decode [0xC3, 0x00] = .error (.missingOperand 0xC3) ∧
    decode [0x3E] = .error (.missingOperand 0x3E) := by decide

/-- A table word runs as the first instruction after reset. -/
theorem test_fetch_word :
    fetchInstr (State.reset.withFetchWord 24 0x1234C3) = .jmp 0x1234 ∧
      fetchInstr ({ State.reset with pc := 0xFFFF }.withFetchWord 16 0x423E) = .mviA 0x42 := by decide

/-! ## Single steps

The vectors of 95_test_vectors.md under their own names. -/

/-- A state with code at PC. -/
def codeAt (pc : Word) (code : List Byte) (s : State) : State := { writeBytes pc code s with pc := pc }

/-- Whether a step from `s` in a configuration gives exactly the state `t`, `cycles` and `events`. -/
def stepGives (cfg : Config) (s t : State) (cycles : Nat) (events : List PortEvent) : Bool :=
  match stepOutput cfg s with
  | .next out => decide (out = { cpu := t, cycles := cycles, events := events })
  | .fault _ => false
  | .refused _ => false

/-- Whether the code at `pc` makes the listed change in one step in a configuration, moves PC to `next`, costs `cost`
cycles, which a terminal outcome does not count, emits `events`, and does nothing else. -/
def runsIn (cfg : Config) (pc : Word) (code : List Byte) (s : State) (next : Word) (cost : Nat)
    (change : State → State) (events : List PortEvent := []) : Bool :=
  let u := change (codeAt pc code s)
  stepGives cfg (codeAt pc code s)
    { u with pc := next, cycleCount := if u.status = .running then cost else u.cycleCount } cost events

/-- The same in this machine's configuration. -/
def runs (pc : Word) (code : List Byte) (s : State) (next : Word) (cost : Nat) (change : State → State)
    (events : List PortEvent := []) : Bool :=
  runsIn config pc code s next cost change events

/-! ### Data transfer (L2-DT) -/

theorem test_DT_1 :
    runs 0x0100 [0x41]
      { State.reset with regs := { State.reset.regs with b := 0x12, c := 0x34 } }
      0x0101 5 (fun s => { s with regs := { s.regs with b := 0x34 } }) = true := by decide
theorem test_DT_3 :
    runs 0x0100 [0x7E]
      (writeByte 0x2400 0x5A { State.reset with regs := { State.reset.regs with h := 0x24, l := 0x00 } })
      0x0101 7 (fun s => { s with regs := { s.regs with a := 0x5A } }) = true := by decide
theorem test_DT_5 :
    runs 0x0100 [0x77]
      { State.reset with regs := { State.reset.regs with h := 0x24, l := 0x00, a := 0x99 } }
      0x0101 7 (fun s => writeByte 0x2400 0x99 s) = true := by decide
theorem test_DT_7 :
    runs 0x0100 [0x06, 0x05]
      State.reset
      0x0102 7 (fun s => { s with regs := { s.regs with b := 0x05 } }) = true := by decide
theorem test_DT_8 :
    runs 0xFFFF [0x3E, 0x42]
      (writeByte 0x0000 0x42 State.reset)
      0x0001 7 (fun s => { s with regs := { s.regs with a := 0x42 } }) = true := by decide
theorem test_DT_9 :
    runs 0x0100 [0x36, 0x7F]
      { State.reset with regs := { State.reset.regs with h := 0x20, l := 0x00 } }
      0x0102 10 (fun s => writeByte 0x2000 0x7F s) = true := by decide
theorem test_DT_11 :
    runs 0x0100 [0x31, 0x00, 0x24] State.reset 0x0103 10 (fun s => { s with sp := 0x2400 }) = true := by decide
theorem test_DT_13 :
    runs 0x0100 [0x3A, 0xC0, 0x20]
      (writeByte 0x20C0 0x03 State.reset)
      0x0103 13 (fun s => { s with regs := { s.regs with a := 0x03 } }) = true := by decide
theorem test_DT_14 :
    runs 0x0100 [0x32, 0x10, 0x24]
      { State.reset with regs := { State.reset.regs with a := 0x10 } }
      0x0103 13 (fun s => writeByte 0x2410 0x10 s) = true := by decide
theorem test_DT_16 :
    runs 0x0100 [0x2A, 0x00, 0x20]
      (writeByte 0x2001 0x12 (writeByte 0x2000 0x34 State.reset))
      0x0103 16 (fun s => { s with regs := { s.regs with h := 0x12, l := 0x34 } }) = true := by decide
theorem test_DT_17 :
    runs 0x0100 [0x2A, 0xFF, 0xFF]
      (writeByte 0x0000 0x12 (writeByte 0xFFFF 0x34 State.reset))
      0x0103 16 (fun s => { s with regs := { s.regs with h := 0x12, l := 0x34 } }) = true := by decide
theorem test_DT_18 :
    runs 0x0100 [0x22, 0x00, 0x21]
      { State.reset with regs := { State.reset.regs with h := 0xBE, l := 0xEF } }
      0x0103 16 (fun s => writeByte 0x2101 0xBE (writeByte 0x2100 0xEF s)) = true := by decide
theorem test_DT_19 :
    runs 0x0100 [0x22, 0xFF, 0xFF]
      { State.reset with regs := { State.reset.regs with h := 0xBE, l := 0xEF } }
      0x0103 16 (fun s => writeByte 0xFFFF 0xEF (writeByte 0x0000 0xBE s)) = true := by decide
theorem test_DT_20 :
    runs 0x0100 [0x1A]
      (writeByte 0x1B00 0x42 { State.reset with regs := { State.reset.regs with d := 0x1B, e := 0x00 } })
      0x0101 7 (fun s => { s with regs := { s.regs with a := 0x42 } }) = true := by decide
theorem test_DT_21 :
    runs 0x0100 [0x02]
      { State.reset with regs := { State.reset.regs with b := 0x24, c := 0x01, a := 0xFF } }
      0x0101 7 (fun s => writeByte 0x2401 0xFF s) = true := by decide
theorem test_DT_22 :
    runs 0x0100 [0xEB]
      { State.reset with regs := { State.reset.regs with d := 0x11, e := 0x11, h := 0x22, l := 0x22 } }
      0x0101 4
      (fun s => { s with regs := { s.regs with d := 0x22, e := 0x22, h := 0x11, l := 0x11 } }) = true := by decide

/-! ### Arithmetic (L2-AR) -/

theorem test_AR_1 :
    runs 0x0100 [0x80]
      { State.reset with regs := { State.reset.regs with a := 0x6C, b := 0x2E } }
      0x0101 4
      (fun s => { s with regs := { s.regs with a := 0x9A }, flags := { s.flags with s := true, p := true } }) = true := by decide
theorem test_AR_5 :
    runs 0x0100 [0x86]
      (writeByte 0x2000 0xF0 { State.reset with
        regs := { State.reset.regs with a := 0x10, h := 0x20, l := 0x00 } })
      0x0101 7
      (fun s => { s with regs := { s.regs with a := 0x00 }, flags := { s.flags with z := true, p := true, cy := true } }) = true := by decide
theorem test_AR_6 :
    runs 0x0100 [0xC6, 0x42]
      { State.reset with regs := { State.reset.regs with a := 0x14 } }
      0x0102 7
      (fun s => { s with regs := { s.regs with a := 0x56 }, flags := { s.flags with p := true } }) = true := by decide
theorem test_AR_7 :
    runs 0x0100 [0x89]
      { State.reset with
        regs := { State.reset.regs with a := 0x3D, c := 0x42 }, flags := { State.reset.flags with cy := true } }
      0x0101 4
      (fun s => { s with regs := { s.regs with a := 0x80 }, flags := { s.flags with s := true, cy := false } }) = true := by decide
theorem test_AR_8 :
    runs 0x0100 [0x89]
      { State.reset with
        regs := { State.reset.regs with a := 0xFF, c := 0x00 }, flags := { State.reset.flags with cy := true } }
      0x0101 4
      (fun s => { s with regs := { s.regs with a := 0x00 }, flags := { s.flags with z := true, p := true } }) = true := by decide
theorem test_AR_9 :
    runs 0x0100 [0x8E]
      (writeByte 0x2000 0xFE { State.reset with
        regs := { State.reset.regs with a := 0x01, h := 0x20, l := 0x00 }, flags := { State.reset.flags with cy := true } })
      0x0101 7
      (fun s => { s with regs := { s.regs with a := 0x00 }, flags := { s.flags with z := true, p := true } }) = true := by decide
theorem test_AR_10 :
    runs 0x0100 [0xCE, 0x0F]
      { State.reset with
        regs := { State.reset.regs with a := 0x00 }, flags := { State.reset.flags with cy := true } }
      0x0102 7
      (fun s => { s with regs := { s.regs with a := 0x10 }, flags := { s.flags with cy := false } }) = true := by decide
theorem test_AR_11 :
    runs 0x0100 [0x97]
      { State.reset with
        regs := { State.reset.regs with a := 0x3E }, flags := { State.reset.flags with cy := true } }
      0x0101 4
      (fun s => { s with regs := { s.regs with a := 0x00 }, flags := { s.flags with z := true, p := true, cy := false } }) = true := by decide
theorem test_AR_13 :
    runs 0x0100 [0x96]
      (writeByte 0x2000 0x41 { State.reset with
        regs := { State.reset.regs with a := 0x40, h := 0x20, l := 0x00 } })
      0x0101 7
      (fun s => { s with regs := { s.regs with a := 0xFF }, flags := { s.flags with s := true, p := true, cy := true } }) = true := by decide
theorem test_AR_14 :
    runs 0x0100 [0xD6, 0x01]
      { State.reset with regs := { State.reset.regs with a := 0x00 } }
      0x0102 7
      (fun s => { s with regs := { s.regs with a := 0xFF }, flags := { s.flags with s := true, p := true, cy := true } }) = true := by decide
theorem test_AR_15 :
    runs 0x0100 [0x98]
      { State.reset with
        regs := { State.reset.regs with a := 0x04, b := 0x02 }, flags := { State.reset.flags with cy := true } }
      0x0101 4
      (fun s => { s with regs := { s.regs with a := 0x01 }, flags := { s.flags with cy := false } }) = true := by decide
theorem test_AR_17 :
    runs 0x0100 [0x9E]
      (writeByte 0x2000 0x10 { State.reset with
        regs := { State.reset.regs with a := 0x10, h := 0x20, l := 0x00 }, flags := { State.reset.flags with cy := false } })
      0x0101 7
      (fun s => { s with regs := { s.regs with a := 0x00 }, flags := { s.flags with z := true, p := true } }) = true := by decide
theorem test_AR_18 :
    runs 0x0100 [0xDE, 0x00]
      { State.reset with
        regs := { State.reset.regs with a := 0x00 }, flags := { State.reset.flags with cy := true } }
      0x0102 7
      (fun s => { s with regs := { s.regs with a := 0xFF }, flags := { s.flags with s := true, p := true } }) = true := by decide
theorem test_AR_19 :
    runs 0x0100 [0x3C]
      { State.reset with
        regs := { State.reset.regs with a := 0xFF }, flags := { State.reset.flags with cy := true } }
      0x0101 5
      (fun s => { s with regs := { s.regs with a := 0x00 }, flags := { s.flags with z := true, p := true } }) = true := by decide
theorem test_AR_21 :
    runs 0x0100 [0x34]
      (writeByte 0x2000 0x7F { State.reset with regs := { State.reset.regs with h := 0x20, l := 0x00 } })
      0x0101 10 (fun s => writeByte 0x2000 0x80 { s with flags := { s.flags with s := true } }) = true := by decide
theorem test_AR_22 :
    runs 0x0100 [0x0D]
      { State.reset with regs := { State.reset.regs with c := 0x01 } }
      0x0101 5
      (fun s => { s with regs := { s.regs with c := 0x00 }, flags := { s.flags with z := true, p := true } }) = true := by decide
theorem test_AR_24 :
    runs 0x0100 [0x35]
      (writeByte 0x2000 0x00 { State.reset with regs := { State.reset.regs with h := 0x20, l := 0x00 } })
      0x0101 10
      (fun s => writeByte 0x2000 0xFF { s with flags := { s.flags with s := true, p := true } }) = true := by decide
theorem test_AR_25 :
    runs 0x0100 [0x23]
      { State.reset with
        regs := { State.reset.regs with h := 0xFF, l := 0xFF }, flags := { State.reset.flags with z := false } }
      0x0101 5 (fun s => { s with regs := { s.regs with h := 0x00, l := 0x00 } }) = true := by decide
theorem test_AR_27 :
    runs 0x0100 [0x0B]
      { State.reset with regs := { State.reset.regs with b := 0x00, c := 0x00 } }
      0x0101 5 (fun s => { s with regs := { s.regs with b := 0xFF, c := 0xFF } }) = true := by decide
theorem test_AR_29 :
    runs 0x0100 [0x09]
      { State.reset with regs := { State.reset.regs with b := 0x33, c := 0x9F, h := 0xA1, l := 0x7B } }
      0x0101 10 (fun s => { s with regs := { s.regs with h := 0xD5, l := 0x1A } }) = true := by decide
theorem test_AR_32 :
    runs 0x0100 [0x27]
      { State.reset with regs := { State.reset.regs with a := 0x9B } }
      0x0101 4
      (fun s => { s with regs := { s.regs with a := 0x01 }, flags := { s.flags with cy := true } }) = true := by decide
theorem test_AR_34 :
    runs 0x0100 [0x27]
      { State.reset with
        regs := { State.reset.regs with a := 0x41 }, flags := { State.reset.flags with ac := true } }
      0x0101 4
      (fun s => { s with regs := { s.regs with a := 0x47 }, flags := { s.flags with p := true, ac := false } }) = true := by decide
theorem test_AR_36 :
    runs 0x0100 [0x27]
      { State.reset with
        regs := { State.reset.regs with a := 0x15 }, flags := { State.reset.flags with cy := true } }
      0x0101 4 (fun s => { s with regs := { s.regs with a := 0x75 } }) = true := by decide

/-! ### Logic, compare and rotate (L2-LG) -/

theorem test_LG_1 :
    runs 0x0100 [0xA0]
      { State.reset with
        regs := { State.reset.regs with a := 0xFC, b := 0x0F }, flags := { State.reset.flags with cy := true } }
      0x0101 4
      (fun s => { s with regs := { s.regs with a := 0x0C }, flags := { s.flags with p := true, cy := false } }) = true := by decide
theorem test_LG_2 :
    runs 0x0100 [0xA7]
      { State.reset with
        regs := { State.reset.regs with a := 0x80 }, flags := { State.reset.flags with cy := true } }
      0x0101 4 (fun s => { s with flags := { s.flags with s := true, cy := false } }) = true := by decide
theorem test_LG_3 :
    runs 0x0100 [0xA6]
      (writeByte 0x2000 0x0F { State.reset with
        regs := { State.reset.regs with a := 0xF0, h := 0x20, l := 0x00 } })
      0x0101 7
      (fun s => { s with regs := { s.regs with a := 0x00 }, flags := { s.flags with z := true, p := true } }) = true := by decide
theorem test_LG_4 :
    runs 0x0100 [0xE6, 0x0F]
      { State.reset with regs := { State.reset.regs with a := 0x3A } }
      0x0102 7
      (fun s => { s with regs := { s.regs with a := 0x0A }, flags := { s.flags with p := true } }) = true := by decide
theorem test_LG_5 :
    runs 0x0100 [0xA8]
      { State.reset with regs := { State.reset.regs with a := 0x5C, b := 0x78 } }
      0x0101 4
      (fun s => { s with regs := { s.regs with a := 0x24 }, flags := { s.flags with p := true } }) = true := by decide
theorem test_LG_7 :
    runs 0x0100 [0xAE]
      (writeByte 0x2000 0x0F { State.reset with
        regs := { State.reset.regs with a := 0xFF, h := 0x20, l := 0x00 } })
      0x0101 7
      (fun s => { s with regs := { s.regs with a := 0xF0 }, flags := { s.flags with s := true, p := true } }) = true := by decide
theorem test_LG_8 :
    runs 0x0100 [0xEE, 0x81]
      { State.reset with regs := { State.reset.regs with a := 0x3B } }
      0x0102 7
      (fun s => { s with regs := { s.regs with a := 0xBA }, flags := { s.flags with s := true } }) = true := by decide
theorem test_LG_9 :
    runs 0x0100 [0xB1]
      { State.reset with
        regs := { State.reset.regs with a := 0x33, c := 0x0F }, flags := { State.reset.flags with cy := true } }
      0x0101 4
      (fun s => { s with regs := { s.regs with a := 0x3F }, flags := { s.flags with p := true, cy := false } }) = true := by decide
theorem test_LG_10 :
    runs 0x0100 [0xB6]
      { State.reset with regs := { State.reset.regs with a := 0x00, h := 0x20, l := 0x00 } }
      0x0101 7 (fun s => { s with flags := { s.flags with z := true, p := true } }) = true := by decide
theorem test_LG_11 :
    runs 0x0100 [0xF6, 0x80]
      { State.reset with regs := { State.reset.regs with a := 0x01 } }
      0x0102 7
      (fun s => { s with regs := { s.regs with a := 0x81 }, flags := { s.flags with s := true, p := true } }) = true := by decide
theorem test_LG_12 :
    runs 0x0100 [0xBB]
      { State.reset with regs := { State.reset.regs with a := 0x02, e := 0x05 } }
      0x0101 4 (fun s => { s with flags := { s.flags with s := true, cy := true } }) = true := by decide
theorem test_LG_14 :
    runs 0x0100 [0xBE]
      (writeByte 0x2000 0x20 { State.reset with
        regs := { State.reset.regs with a := 0x10, h := 0x20, l := 0x00 } })
      0x0101 7 (fun s => { s with flags := { s.flags with s := true, p := true, cy := true } }) = true := by decide
theorem test_LG_15 :
    runs 0x0100 [0xFE, 0x40]
      { State.reset with regs := { State.reset.regs with a := 0x4A } }
      0x0102 7 (fun s => { s with flags := { s.flags with p := true } }) = true := by decide
theorem test_LG_17 :
    runs 0x0100 [0x07]
      { State.reset with regs := { State.reset.regs with a := 0xF2 } }
      0x0101 4
      (fun s => { s with regs := { s.regs with a := 0xE5 }, flags := { s.flags with cy := true } }) = true := by decide
theorem test_LG_19 :
    runs 0x0100 [0x0F]
      { State.reset with regs := { State.reset.regs with a := 0xF2 } }
      0x0101 4 (fun s => { s with regs := { s.regs with a := 0x79 } }) = true := by decide
theorem test_LG_21 :
    runs 0x0100 [0x17]
      { State.reset with
        regs := { State.reset.regs with a := 0xB5 }, flags := { State.reset.flags with cy := false } }
      0x0101 4
      (fun s => { s with regs := { s.regs with a := 0x6A }, flags := { s.flags with cy := true } }) = true := by decide
theorem test_LG_23 :
    runs 0x0100 [0x1F]
      { State.reset with
        regs := { State.reset.regs with a := 0x6A }, flags := { State.reset.flags with cy := true } }
      0x0101 4
      (fun s => { s with regs := { s.regs with a := 0xB5 }, flags := { s.flags with cy := false } }) = true := by decide
theorem test_LG_25 :
    runs 0x0100 [0x2F]
      { State.reset with regs := { State.reset.regs with a := 0x51 } }
      0x0101 4 (fun s => { s with regs := { s.regs with a := 0xAE } }) = true := by decide
theorem test_LG_27 :
    runs 0x0100 [0x3F]
      { State.reset with flags := { State.reset.flags with cy := true } }
      0x0101 4 (fun s => { s with flags := { s.flags with cy := false } }) = true := by decide
theorem test_LG_28 :
    runs 0x0100 [0x37]
      State.reset
      0x0101 4 (fun s => { s with flags := { s.flags with cy := true } }) = true := by decide

/-! ### Branches, calls and returns (L2-BR) -/

theorem test_BR_1 :
    runs 0x0100 [0xC3, 0xD4, 0x18] State.reset 0x18D4 10 id = true := by decide
theorem test_BR_2 :
    runs 0x0100 [0xC2, 0x00, 0x02]
      { State.reset with flags := { State.reset.flags with z := false } }
      0x0200 10 id = true := by decide
theorem test_BR_3 :
    runs 0x0100 [0xC2, 0x00, 0x02]
      { State.reset with flags := { State.reset.flags with z := true } }
      0x0103 10 id = true := by decide
theorem test_BR_4 :
    runs 0x0100 [0xCA, 0x34, 0x12]
      { State.reset with flags := { State.reset.flags with z := true } }
      0x1234 10 id = true := by decide
theorem test_BR_5 :
    runs 0x0100 [0xD2, 0x34, 0x12]
      { State.reset with flags := { State.reset.flags with cy := true } }
      0x0103 10 id = true := by decide
theorem test_BR_6 :
    runs 0x0100 [0xDA, 0x34, 0x12]
      { State.reset with flags := { State.reset.flags with cy := true } }
      0x1234 10 id = true := by decide
theorem test_BR_7 :
    runs 0x0100 [0xE2, 0x34, 0x12]
      { State.reset with flags := { State.reset.flags with p := false } }
      0x1234 10 id = true := by decide
theorem test_BR_8 :
    runs 0x0100 [0xEA, 0x34, 0x12]
      { State.reset with flags := { State.reset.flags with p := false } }
      0x0103 10 id = true := by decide
theorem test_BR_9 :
    runs 0x0100 [0xF2, 0x34, 0x12]
      { State.reset with flags := { State.reset.flags with s := false } }
      0x1234 10 id = true := by decide
theorem test_BR_10 :
    runs 0x0100 [0xFA, 0x34, 0x12]
      { State.reset with flags := { State.reset.flags with s := true } }
      0x1234 10 id = true := by decide
theorem test_BR_12 :
    runs 0x0100 [0xCD, 0x00, 0x0A]
      { State.reset with sp := 0x2400 }
      0x0A00 17 (fun s => writeByte 0x23FF 0x01 (writeByte 0x23FE 0x03 { s with sp := 0x23FE })) = true := by decide
theorem test_BR_13 :
    runs 0x0100 [0xCD, 0x00, 0x0A]
      { State.reset with sp := 0x0000 }
      0x0A00 17 (fun s => writeByte 0xFFFF 0x01 (writeByte 0xFFFE 0x03 { s with sp := 0xFFFE })) = true := by decide
theorem test_BR_14 :
    runs 0xFFFD [0xCD, 0x00, 0x0A]
      (writeByte 0x0000 0x0A { State.reset with sp := 0x2400 })
      0x0A00 17 (fun s => { s with sp := 0x23FE }) = true := by decide
theorem test_BR_15 :
    runs 0x0100 [0xC4, 0x00, 0x0A]
      { State.reset with flags := { State.reset.flags with z := false }, sp := 0x2400 }
      0x0A00 17 (fun s => writeByte 0x23FF 0x01 (writeByte 0x23FE 0x03 { s with sp := 0x23FE })) = true := by decide
theorem test_BR_16 :
    runs 0x0100 [0xCC, 0x00, 0x0A]
      { State.reset with flags := { State.reset.flags with z := false }, sp := 0x2400 }
      0x0103 11 id = true := by decide
theorem test_BR_17 :
    runs 0x0100 [0xDC, 0x00, 0x0A]
      { State.reset with flags := { State.reset.flags with cy := true }, sp := 0x2400 }
      0x0A00 17 (fun s => writeByte 0x23FF 0x01 (writeByte 0x23FE 0x03 { s with sp := 0x23FE })) = true := by decide
theorem test_BR_18 :
    runs 0x0100 [0xEC, 0x00, 0x0A]
      { State.reset with flags := { State.reset.flags with p := true }, sp := 0x2400 }
      0x0A00 17 (fun s => writeByte 0x23FF 0x01 (writeByte 0x23FE 0x03 { s with sp := 0x23FE })) = true := by decide
theorem test_BR_19 :
    runs 0x0100 [0xFC, 0x00, 0x0A]
      { State.reset with flags := { State.reset.flags with s := false }, sp := 0x2400 }
      0x0103 11 id = true := by decide
theorem test_BR_20 :
    runs 0x0100 [0xC9]
      (writeByte 0x23FF 0x01 (writeByte 0x23FE 0x03 { State.reset with sp := 0x23FE }))
      0x0103 10 (fun s => { s with sp := 0x2400 }) = true := by decide
theorem test_BR_21 :
    runs 0x0100 [0xC9]
      (writeByte 0x0000 0x01 (writeByte 0xFFFF 0x03 { State.reset with sp := 0xFFFF }))
      0x0103 10 (fun s => { s with sp := 0x0001 }) = true := by decide
theorem test_BR_22 :
    runs 0x0100 [0xC0]
      (writeByte 0x23FF 0x01 (writeByte 0x23FE 0x03 { State.reset with
        flags := { State.reset.flags with z := false }, sp := 0x23FE }))
      0x0103 11 (fun s => { s with sp := 0x2400 }) = true := by decide
theorem test_BR_23 :
    runs 0x0100 [0xC8]
      (writeByte 0x23FF 0x01 (writeByte 0x23FE 0x03 { State.reset with
        flags := { State.reset.flags with z := false }, sp := 0x23FE }))
      0x0101 5 id = true := by decide
theorem test_BR_24 :
    runs 0x0100 [0xD8]
      (writeByte 0x23FF 0x01 (writeByte 0x23FE 0x03 { State.reset with
        flags := { State.reset.flags with cy := true }, sp := 0x23FE }))
      0x0103 11 (fun s => { s with sp := 0x2400 }) = true := by decide
theorem test_BR_25 :
    runs 0x0100 [0xE8]
      (writeByte 0x23FF 0x01 (writeByte 0x23FE 0x03 { State.reset with
        flags := { State.reset.flags with p := false }, sp := 0x23FE }))
      0x0101 5 id = true := by decide
theorem test_BR_26 :
    runs 0x0100 [0xF8]
      (writeByte 0x23FF 0x01 (writeByte 0x23FE 0x03 { State.reset with
        flags := { State.reset.flags with s := true }, sp := 0x23FE }))
      0x0103 11 (fun s => { s with sp := 0x2400 }) = true := by decide
theorem test_BR_27 :
    runs 0x0200 [0xCF]
      { State.reset with sp := 0x2400 }
      0x0008 11 (fun s => writeByte 0x23FF 0x02 (writeByte 0x23FE 0x01 { s with sp := 0x23FE })) = true := by decide
theorem test_BR_30 :
    runs 0x0100 [0xE9]
      { State.reset with regs := { State.reset.regs with h := 0x1A, l := 0x2B } }
      0x1A2B 5 id = true := by decide
theorem test_BR_32 :
    runs 0x0100 [0xD4, 0x00, 0x0A]
      { State.reset with flags := { State.reset.flags with cy := true }, sp := 0x2400 }
      0x0103 11 id = true := by decide
theorem test_BR_33 :
    runs 0x0100 [0xE4, 0x00, 0x0A]
      { State.reset with flags := { State.reset.flags with p := false }, sp := 0x2400 }
      0x0A00 17 (fun s => writeByte 0x23FF 0x01 (writeByte 0x23FE 0x03 { s with sp := 0x23FE })) = true := by decide
theorem test_BR_34 :
    runs 0x0100 [0xF4, 0x00, 0x0A]
      { State.reset with flags := { State.reset.flags with s := false }, sp := 0x2400 }
      0x0A00 17 (fun s => writeByte 0x23FF 0x01 (writeByte 0x23FE 0x03 { s with sp := 0x23FE })) = true := by decide
theorem test_BR_35 :
    runs 0x0100 [0xD0]
      (writeByte 0x23FF 0x01 (writeByte 0x23FE 0x03 { State.reset with
        flags := { State.reset.flags with cy := false }, sp := 0x23FE }))
      0x0103 11 (fun s => { s with sp := 0x2400 }) = true := by decide
theorem test_BR_36 :
    runs 0x0100 [0xE0]
      (writeByte 0x23FF 0x01 (writeByte 0x23FE 0x03 { State.reset with
        flags := { State.reset.flags with p := true }, sp := 0x23FE }))
      0x0101 5 id = true := by decide
theorem test_BR_37 :
    runs 0x0100 [0xF0]
      (writeByte 0x23FF 0x01 (writeByte 0x23FE 0x03 { State.reset with
        flags := { State.reset.flags with s := false }, sp := 0x23FE }))
      0x0103 11 (fun s => { s with sp := 0x2400 }) = true := by decide

/-! ### Stack, ports and machine control (L2-SC) -/

theorem test_SC_1 :
    runs 0x0100 [0xC5]
      { State.reset with regs := { State.reset.regs with b := 0x12, c := 0x34 }, sp := 0x2400 }
      0x0101 11 (fun s => writeByte 0x23FF 0x12 (writeByte 0x23FE 0x34 { s with sp := 0x23FE })) = true := by decide
theorem test_SC_3 :
    runs 0x0100 [0xD5]
      { State.reset with regs := { State.reset.regs with d := 0x12, e := 0x34 }, sp := 0x0001 }
      0x0101 11 (fun s => writeByte 0xFFFF 0x34 (writeByte 0x0000 0x12 { s with sp := 0xFFFF })) = true := by decide
theorem test_SC_4 :
    runs 0x0100 [0xF5]
      { State.reset with
        regs := { State.reset.regs with a := 0x1F }, flags := { State.reset.flags with z := true, p := true, cy := true }, sp := 0x2400 }
      0x0101 11 (fun s => writeByte 0x23FF 0x1F (writeByte 0x23FE 0x47 { s with sp := 0x23FE })) = true := by decide
theorem test_SC_5 :
    runs 0x0100 [0xE1]
      (writeByte 0x23FF 0x12 (writeByte 0x23FE 0x34 { State.reset with sp := 0x23FE }))
      0x0101 10 (fun s => { s with regs := { s.regs with h := 0x12, l := 0x34 }, sp := 0x2400 }) = true := by decide
theorem test_SC_6 :
    runs 0x0100 [0xC1]
      (writeByte 0x0000 0x12 (writeByte 0xFFFF 0x34 { State.reset with sp := 0xFFFF }))
      0x0101 10 (fun s => { s with regs := { s.regs with b := 0x12, c := 0x34 }, sp := 0x0001 }) = true := by decide
theorem test_SC_7 :
    runs 0x0100 [0xF1]
      (writeByte 0x23FF 0x00 (writeByte 0x23FE 0xFF { State.reset with sp := 0x23FE }))
      0x0101 10
      (fun s => { s with flags := { s.flags with z := true, s := true, p := true, cy := true, ac := true }, sp := 0x2400 }) = true := by decide
theorem test_SC_10 :
    runs 0x0100 [0xE3]
      (writeByte 0x23FF 0x0D (writeByte 0x23FE 0xF0 { State.reset with
        regs := { State.reset.regs with h := 0x0B, l := 0x3C }, sp := 0x23FE }))
      0x0101 18
      (fun s => writeByte 0x23FF 0x0B (writeByte 0x23FE 0x3C { s with regs := { s.regs with h := 0x0D, l := 0xF0 } })) = true := by decide
theorem test_SC_11 :
    runs 0x0100 [0xE3]
      (writeByte 0x0000 0x0D (writeByte 0xFFFF 0xF0 { State.reset with
        regs := { State.reset.regs with h := 0x0B, l := 0x3C }, sp := 0xFFFF }))
      0x0101 18
      (fun s => writeByte 0xFFFF 0x3C (writeByte 0x0000 0x0B { s with regs := { s.regs with h := 0x0D, l := 0xF0 } })) = true := by decide
theorem test_SC_12 :
    runs 0x0100 [0xF9]
      { State.reset with regs := { State.reset.regs with h := 0x24, l := 0x00 } }
      0x0101 5 (fun s => { s with sp := 0x2400 }) = true := by decide
theorem test_SC_13 :
    runs 0x0100 [0xDB, 0x03]
      { State.reset with
        latches := { State.reset.latches with shift1 := 0xFF, shift0 := 0x00, shiftOffset := 4 } }
      0x0102 10 (fun s => { s with regs := { s.regs with a := 0xF0 } }) = true := by decide
theorem test_SC_14 :
    runs 0x0100 [0xDB, 0x03]
      { State.reset with
        latches := { State.reset.latches with shift1 := 0xAB, shift0 := 0xCD, shiftOffset := 0 } }
      0x0102 10 (fun s => { s with regs := { s.regs with a := 0xAB } }) = true := by decide
theorem test_SC_15 :
    runs 0x0100 [0xDB, 0x03]
      { State.reset with
        latches := { State.reset.latches with shift1 := 0xAB, shift0 := 0xCD, shiftOffset := 7 } }
      0x0102 10 (fun s => { s with regs := { s.regs with a := 0xE6 } }) = true := by decide
theorem test_SC_16 :
    runs 0x0100 [0xDB, 0x01]
      { State.reset with latches := { State.reset.latches with in1 := 0x81 } }
      0x0102 10 (fun s => { s with regs := { s.regs with a := 0x81 } }) = true := by decide
theorem test_SC_17 :
    runs 0x0100 [0xDB, 0x02]
      { State.reset with latches := { State.reset.latches with in2 := 0x0F } }
      0x0102 10 (fun s => { s with regs := { s.regs with a := 0x0F } }) = true := by decide
theorem test_SC_18 :
    runs 0x0100 [0xDB, 0x07]
      { State.reset with regs := { State.reset.regs with a := 0x55 } }
      0x0102 10 (fun s => { s with regs := { s.regs with a := 0x00 } }) = true := by decide
theorem test_SC_19 :
    runs 0x0100 [0xD3, 0x02]
      { State.reset with regs := { State.reset.regs with a := 0xFA } }
      0x0102 10 (fun s => { s with latches := { s.latches with shiftOffset := 2 } }) = true := by decide
theorem test_SC_22 :
    runs 0x0100 [0xD3, 0x05]
      { State.reset with regs := { State.reset.regs with a := 0x20 } }
      0x0102 10 (fun s => { s with latches := { s.latches with out5 := 0x20 } }) [⟨5, 0x20⟩] = true := by decide
theorem test_SC_23 :
    runs 0x0100 [0xD3, 0x06]
      { State.reset with regs := { State.reset.regs with a := 0x20 } }
      0x0102 10 id = true := by decide
theorem test_SC_24 :
    runs 0x0100 [0xD3, 0x07]
      { State.reset with regs := { State.reset.regs with a := 0x20 } }
      0x0100 0 (fun s => { s with status := .unimplementedPort 7 }) = true := by decide
theorem test_SC_25 :
    runs 0x0100 [0xD3, 0x00]
      { State.reset with regs := { State.reset.regs with a := 0x20 } }
      0x0100 0 (fun s => { s with status := .unimplementedPort 0 }) = true := by decide
theorem test_SC_26 :
    runs 0x0100 [0xFB] State.reset 0x0101 4 (fun s => { s with inte := true }) = true := by decide
theorem test_SC_27 :
    runs 0x0100 [0xF3]
      { State.reset with inte := true }
      0x0101 4 (fun s => { s with inte := false }) = true := by decide
theorem test_SC_28 :
    runs 0x0040 [0x76] State.reset 0x0041 7 (fun s => { s with status := .halted }) = true := by decide
theorem test_SC_29 :
    runs 0x1000 [0x00] State.reset 0x1001 4 id = true := by decide

/-! ### Outcomes (L2-EX) -/

theorem test_EX_08 :
    runs 0x0100 [0x08]
      { State.reset with regs := { State.reset.regs with a := 0x11 } }
      0x0100 0 (fun s => { s with status := .unimplemented 0x08 }) = true := by decide
/-! ### 16-bit operations on SP (R219 to R221: the pair field 11) -/

/-- INX SP wraps and writes no flag. -/
theorem test_inx_sp :
    runs 0x0100 [0x33] { State.reset with sp := 0xFFFF } 0x0101 5 (fun s => { s with sp := 0x0000 }) = true := by
  decide

/-- DCX SP wraps and writes no flag. -/
theorem test_dcx_sp :
    runs 0x0100 [0x3B] State.reset 0x0101 5 (fun s => { s with sp := 0xFFFF }) = true := by decide

/-- DAD SP: 0x0102 + 0x2400 = 0x2502. -/
theorem test_dad_sp :
    runs 0x0100 [0x39] { State.reset with sp := 0x2400, regs := { State.reset.regs with h := 0x01, l := 0x02 } }
      0x0101 10 (fun s => { s with regs := { s.regs with h := 0x25 } }) = true := by decide

/-! ### Other configurations (R10)

The first four are the "under `nibble`" values of the vectors. -/

/-- The configuration with the nibble AC rule. -/
def nibbleConfig : Config := { config with acMode := .nibble }

theorem test_AR_4_nibble :
    runsIn nibbleConfig 0x0100 [0x80] { State.reset with regs := { State.reset.regs with a := 0x0F, b := 0x01 } }
      0x0101 4 (fun s => { s with regs := { s.regs with a := 0x10 }, flags := { s.flags with ac := true } })
      = true := by decide

theorem test_AR_22_nibble :
    runsIn nibbleConfig 0x0100 [0x0D] { State.reset with regs := { State.reset.regs with c := 0x01 } } 0x0101 5
      (fun s => { s with
        regs := { s.regs with c := 0x00 }, flags := { s.flags with z := true, p := true, ac := true } })
      = true := by decide

theorem test_AR_32_nibble :
    runsIn nibbleConfig 0x0100 [0x27] { State.reset with regs := { State.reset.regs with a := 0x9B } } 0x0101 4
      (fun s => { s with regs := { s.regs with a := 0x01 }, flags := { s.flags with cy := true, ac := true } })
      = true := by decide

theorem test_LG_3_nibble :
    runsIn nibbleConfig 0x0100 [0xA6]
      (writeByte 0x2000 0x0F { State.reset with regs := { State.reset.regs with a := 0xF0, h := 0x20 } }) 0x0101 7
      (fun s => { s with
        regs := { s.regs with a := 0x00 }, flags := { s.flags with z := true, p := true, ac := true } })
      = true := by decide

/-- R132: a documented byte without a handler behaves like an undocumented one. -/
theorem test_documented_byte_without_handler :
    runsIn { config with implemented := fun op => op != 0x80 } 0x0100 [0x80] State.reset 0x0100 0
      (fun s => { s with status := .unimplemented 0x80 }) = true := by decide

/-- R40: PUSH PSW in a layout that is not Intel's stores CY at bit 7. -/
theorem test_push_psw_in_another_layout :
    runsIn { config with pswLayout := { s := 0, z := 1, ac := 3, p := 5, cy := 7, fixed := 0x54 } } 0x0100 [0xF5]
      { State.reset with sp := 0x2400, flags := { State.reset.flags with cy := true } } 0x0101 11
      (fun s => writeByte 0x23FE 0xD4 { s with sp := 0x23FE }) = true := by decide

/-- R459, R460: another table and another extra: a taken CNZ costs 3 + 2. -/
theorem test_cost_in_another_table :
    runsIn { config with cycles := fun _ => 3, takenExtra := 2 } 0x0100 [0xC4, 0x00, 0x02]
      { State.reset with sp := 0x2400 } 0x0200 5
      (fun s => writeByte 0x23FE 0x03 (writeByte 0x23FF 0x01 { s with sp := 0x23FE })) = true := by decide

/-- R97, U4: IN 0 in a configuration that names the constant. -/
theorem test_port0_named :
    runsIn { config with port0Value := 0x0E } 0x0100 [0xDB, 0x00] State.reset 0x0102 10
      (fun s => { s with regs := { s.regs with a := 0x0E } }) = true := by decide

/-- R416, R420, R425: with a budget of 10, each of two OUTs is a half-frame, and the frame has both events. -/
theorem test_frame_with_another_budget :
    runFrame { config with halfFrameCycles := 10 } (codeAt 0 [0xD3, 0x03, 0xD3, 0x05] State.reset) =
      .next { cpu := { codeAt 0 [0xD3, 0x03, 0xD3, 0x05] State.reset with pc := 4, cycleCount := 10 },
              events := [⟨3, 0⟩, ⟨5, 0⟩] } := by rfl

/-- R416: with a budget of 0 no step runs, and the boundary comes at once. -/
theorem test_half_frame_with_empty_budget :
    runHalfFrame { config with halfFrameCycles := 0 } (codeAt 0 [0x3C] State.reset) =
      .next { cpu := { codeAt 0 [0x3C] State.reset with phase := .bottom }, events := [] } := by rfl

/-- R416: where NOP costs nothing, a half-frame of 4 cycles may take more steps than that: six NOPs and a CMA. -/
theorem test_half_frame_with_free_steps :
    runHalfFrameFor { config with halfFrameCycles := 4, cycles := fun op => if op = 0x00 then 0 else 4 } 7
        (codeAt 0 [0, 0, 0, 0, 0, 0, 0x2F] State.reset) =
      .next { cpu := { codeAt 0 [0, 0, 0, 0, 0, 0, 0x2F] State.reset with
                       regs := { State.reset.regs with a := 0xFF }, pc := 7, cycleCount := 4, phase := .bottom },
              events := [] } := by rfl

/-! ### The scheduler (L2-SCH, and the first half-frame of program P4) -/

/-- SCH-1: the last step of a Top half-frame with INTE set enters RST 1: the spin loop's address is pushed. -/
theorem test_boundary_enters_rst1 :
    stepGives config
      (codeAt 0x0001 [0xC3, 0x01, 0x00] { State.reset with inte := true, cycleCount := 16664 })
      (writeByte 0xFFFE 0x01 (codeAt 0x0001 [0xC3, 0x01, 0x00]
        { State.reset with sp := 0xFFFE, phase := .bottom, cycleCount := 16674 }) |> jump 0x0008) 10 []
      = true := by decide

/-- SCH-3: a Bottom half-frame ends with RST 2. -/
theorem test_boundary_enters_rst2 :
    stepGives config
      (codeAt 0x0100 [0xC3, 0x00, 0x01]
        { State.reset with sp := 0x2400, inte := true, phase := .bottom, cycleCount := 16660 })
      (writeByte 0x23FF 0x01 (codeAt 0x0100 [0xC3, 0x00, 0x01]
        { State.reset with sp := 0x23FE, phase := .top, cycleCount := 16670 }) |> jump 0x0010) 10 []
      = true := by decide

/-- SCH-2: with INTE clear the request is dropped. -/
theorem test_boundary_drops_request :
    stepGives config (codeAt 0x0000 [0xC3, 0x00, 0x00] { State.reset with cycleCount := 16660 })
      (codeAt 0x0000 [0xC3, 0x00, 0x00] { State.reset with cycleCount := 16670, phase := .bottom }) 10 []
      = true := by decide

/-- The step after a boundary begins a half-frame: the count starts at 0 (R416). -/
theorem test_next_half_frame_begins :
    runs 0x0000 [0x00] { State.reset with cycleCount := 16670 } 0x0001 4 id = true := by decide

/-- R405: no step in a terminal status. -/
theorem test_no_step_after_halt :
    step { State.reset with status := .halted } = .fault (.runEnded .halted) := by rfl

/-- SCH-4: HLT at the end of a half-frame takes no interrupt and leaves the phase and the count; its 7 cycles are
reported (R401). -/
theorem test_halt_at_boundary :
    runs 0x0002 [0x76] { State.reset with inte := true, cycleCount := 16666 } 0x0003 7
      (fun s => { s with status := .halted }) = true := by decide

/-- SCH-8: the half-frame's list has every event in step order, repeats included. -/
theorem test_half_frame_collects_events :
    (match runHalfFrame config
        (codeAt 0 [0x3E, 0x01, 0xD3, 0x03, 0xD3, 0x03, 0x3E, 0x00, 0xD3, 0x05, 0x76] State.reset) with
    | .next out => decide (out.events = [⟨3, 1⟩, ⟨3, 1⟩, ⟨5, 0⟩] ∧ out.cpu.pc = 0x000B ∧ out.cpu.status = .halted)
    | .fault _ => false
    | .refused _ => false) = true := by rfl

/-- R450, R452: the first step after reset runs the byte at 0x0000 (SCH-9). -/
theorem test_first_step_after_reset :
    stepGives config State.reset { State.reset with pc := 1, cycleCount := 4 } 4 [] = true := by decide

/-! ## Witnesses

For every statement with hypotheses, states and operands that meet all of them together. A witness is named after its
statement. -/

theorem witness_StepRunsDecodedInstruction :
    let s := codeAt 0xFFFF [0x3E, 0x05] State.reset
    s.status = .running ∧
      decode [readByte s.pc s, readByte (s.pc + 1) s, readByte (s.pc + 2) s] = .ok (.mviA 0x05, [0]) ∧
      Instr.wellFormed (.mviA 0x05) = true ∧ (∃ t, exec (.mviA 0x05) (openStep config s) = .next t) ∧
      nibbleConfig.implemented (opcodeOf (.mviA 0x05)) = true ∧ (∃ t, execWith nibbleConfig (.mviA 0x05) s = .next t) ∧
      ∃ t, execWith nibbleConfig (.mviA 0x05) (openStep nibbleConfig s) = .next t :=
  ⟨rfl, by decide, rfl, ⟨_, rfl⟩, by decide, ⟨_, rfl⟩, _, rfl⟩

/-- The first and the last undocumented byte, and a documented byte whose handler is missing. -/
theorem witness_UndocumentedByteStopsTheRun :
    (∀ op ∈ ([0x08, 0xFD] : List Byte),
      (codeAt 0x0100 [op] State.reset).status = .running ∧
        config.implemented (readByte (codeAt 0x0100 [op] State.reset).pc (codeAt 0x0100 [op] State.reset)) = false ∧
        readByte (codeAt 0x0100 [op] State.reset).pc (codeAt 0x0100 [op] State.reset) ∈
          ([0x08, 0x10, 0x18, 0x20, 0x28, 0x30, 0x38, 0xCB, 0xD9, 0xDD, 0xED, 0xFD] : List Byte)) ∧
      { config with implemented := fun op => op != 0x00 }.implemented (readByte State.reset.pc State.reset) = false := by
  decide

/-- Both clauses; the second at the last count before the boundary. -/
theorem witness_TerminalOutcomesAreFinal :
    { State.reset with status := .halted }.status ≠ .running ∧
      (let s := codeAt 0 [0x76] { State.reset with cycleCount := 16666 }
      s.cycleCount < config.halfFrameCycles ∧ ∃ out, coreStep config s = .next out ∧ out.cpu.status ≠ .running) :=
  ⟨by decide, by decide, _, rfl, by decide⟩

theorem witness_NoInstructionTraps : State.reset.status = .running := rfl

/-- A step with each of the four outcomes, and OUT at both sides of the range of its ports. -/
theorem witness_StepOutcomes :
    config.wellFormed = true ∧
      (∃ out, coreStep config (codeAt 0 [0x76] State.reset) = .next out ∧ out.cpu.status = .halted) ∧
      (∃ out, coreStep config (codeAt 0 [0xFD] State.reset) = .next out ∧ out.cpu.status = .unimplemented 0xFD) ∧
      (∃ out, coreStep config (codeAt 0 [0xD3, 1] State.reset) = .next out ∧
        out.cpu.status = .unimplementedPort 1) ∧
      (∃ out, coreStep config (codeAt 0 [0xD3, 2] State.reset) = .next out ∧ out.cpu.status = .running) ∧
      (∃ out, coreStep config (codeAt 0 [0xD3, 6] State.reset) = .next out ∧ out.cpu.status = .running) ∧
      (∃ out, coreStep config (codeAt 0 [0xD3, 7] State.reset) = .next out ∧
        out.cpu.status = .unimplementedPort 7) :=
  ⟨by decide, ⟨_, rfl, rfl⟩, ⟨_, rfl, rfl⟩, ⟨_, rfl, rfl⟩, ⟨_, rfl, rfl⟩, ⟨_, rfl, rfl⟩, ⟨_, rfl, rfl⟩⟩

/-- The first clause at the last sum before the boundary, the second at the boundary. -/
theorem witness_CyclesAreCounted :
    (let s : State := { State.reset with cycleCount := 16662 }
    (∃ out, coreStep config s = .next out ∧ out.cpu.status = .running) ∧
      s.cycleCount + opCost config (readByte s.pc s) s.flags < config.halfFrameCycles) ∧
      config.halfFrameCycles ≤ { State.reset with cycleCount := 16667 }.cycleCount :=
  ⟨⟨⟨_, rfl, rfl⟩, by decide⟩, by decide⟩

/-- In both phases, at the first sum past the boundary. -/
theorem witness_BoundaryEntersInterrupt (ph : Phase) :
    let s : State := { State.reset with cycleCount := 16663, inte := true, phase := ph }
    s.cycleCount < config.halfFrameCycles ∧
      config.halfFrameCycles ≤ s.cycleCount + opCost config (readByte s.pc s) s.flags ∧
      ∃ out t, coreStep config s = .next out ∧ t = out.cpu ∧ t.status = .running ∧ t.inte = true := by
  cases ph <;> exact ⟨by decide, by decide, _, _, rfl, rfl, rfl, rfl⟩

theorem witness_BoundaryDropsRequest (ph : Phase) :
    let s : State := { State.reset with cycleCount := 16663, phase := ph }
    s.cycleCount < config.halfFrameCycles ∧
      config.halfFrameCycles ≤ s.cycleCount + opCost config (readByte s.pc s) s.flags ∧
      ∃ out t, coreStep config s = .next out ∧ t = out.cpu ∧ t.status = .running ∧ t.inte = false := by
  cases ph <;> exact ⟨by decide, by decide, _, _, rfl, rfl, rfl, rfl⟩

/-- This machine's configuration and another one that is well formed, a half-frame that returns, and an empty
budget. -/
theorem witness_HalfFrameSpendsItsBudget :
    State.reset.status = .running ∧ config.wellFormed = true ∧
      { nibbleConfig with halfFrameCycles := 1 }.wellFormed = true ∧
      (∃ out, HalfFrameReturns { config with halfFrameCycles := 4 } State.reset out) ∧
      { config with halfFrameCycles := 0 }.halfFrameCycles = 0 :=
  ⟨rfl, by decide, by decide, ⟨_, 4, rfl, by decide⟩, rfl⟩

/-- A half-frame that HLT ends in its first step; and, with a budget of 4, two half-frames of one NOP each. -/
theorem witness_PhaseAlternatesByHalfFrame :
    let short : Config := { config with halfFrameCycles := 4 }
    (∃ out, HalfFrameReturns config (codeAt 0 [0x76] State.reset) out ∧ out.cpu.status ≠ .running) ∧
      short.wellFormed = true ∧ State.reset.status = .running ∧
      ∃ out second, runHalfFrameFor short 4 State.reset = .next out ∧ out.cpu.status = .running ∧
        short.halfFrameCycles ≤ out.cpu.cycleCount ∧ runHalfFrameFor short 4 out.cpu = .next second :=
  ⟨⟨_, ⟨1, rfl, by decide⟩, by decide⟩, by decide, rfl, _, _, rfl, rfl, by decide, rfl⟩

/-- A state with code and cycles meets the invariant and steps. -/
theorem witness_EveryStepKeepsInvariant :
    let s := codeAt 0 [0xD3, 0x05] { State.reset with cycleCount := 16666 }
    s.Inv ∧ ∃ t, step s = .next t :=
  ⟨⟨by decide, by decide, trivial⟩, _, rfl⟩

/-- A terminal state that meets the invariant. -/
theorem witness_terminal_state_meets_invariant :
    (codeAt 0 [0xD3, 0x07] { State.reset with status := .unimplementedPort 7 }).Inv :=
  ⟨by decide, by decide, by decide, by decide, by decide⟩

theorem witness_ReachableStatesMeetInvariant :
    Reachable State.reset ∧ Reachable { State.reset with pc := 1, cycleCount := 4 } :=
  ⟨.reset [] _ rfl, .step _ _ (.reset [] _ rfl) rfl⟩

/-- Both hypotheses, at the last address. -/
theorem witness_StoreThenLoad :
    let s : State := { State.reset with pc := 0xFFFF, mem := [(0, 5), (65535, 6)] }
    s.pc = 0xFFFF ∧ Memory.wf s.mem = true := by decide

theorem witness_PushThenPopRestores :
    (∃ t u, exec (instrOf (.push .hl)) { State.reset with sp := 1 } = .next t ∧
      exec (instrOf (.pop .hl)) t = .next u) ∧
      ∃ t u, exec .pushPSW State.reset = .next t ∧ exec .popPSW t = .next u :=
  ⟨⟨_, _, rfl, rfl⟩, _, _, rfl, rfl⟩

theorem witness_CallThenReturnRestores :
    (∃ t u, exec (.call 0x0200) State.reset = .next t ∧ exec .ret t = .next u) ∧
      ∃ u, exec .ret (takeInterrupt 2 State.reset) = .next u :=
  ⟨⟨_, _, rfl, rfl⟩, _, rfl⟩

theorem witness_PairsJoinTwoRegisters : Reg.a ≠ pairHigh .hl ∧ Reg.a ≠ pairLow .hl := by decide

/-- Both modes, in configurations that agree on the rest; and a POP PSW that sets AC. -/
theorem witness_AuxCarryByMode :
    config.acMode = .literal ∧ nibbleConfig.acMode = .nibble ∧ config.pswLayout = nibbleConfig.pswLayout ∧
      config.port0Value = nibbleConfig.port0Value ∧
      (∃ t u, execWith config .addB State.reset = .next t ∧ execWith nibbleConfig .addB State.reset = .next u) ∧
      ∃ t, exec .popPSW (writeByte 0 0x10 State.reset) = .next t ∧ t.flags.ac = true :=
  ⟨rfl, rfl, rfl, rfl, ⟨_, _, rfl, rfl⟩, _, rfl, by decide⟩

theorem witness_AddAndSubtractAlgebra :
    config.acMode = .literal ∧ nibbleConfig.acMode = .nibble := ⟨rfl, rfl⟩

theorem witness_LogicAlgebra :
    config.acMode = .literal ∧ nibbleConfig.acMode = .nibble := ⟨rfl, rfl⟩

/-- Intel's layout, and one that is not Intel's. -/
theorem witness_FlagsByteRoundTrip :
    intelPswLayout.wellFormed = true ∧
      ({ s := 0, z := 1, ac := 3, p := 5, cy := 7, fixed := 0x54 } : PswLayout).wellFormed = true := by decide

/-- A form that writes no flag, one that keeps CY, and one that writes CY only. -/
theorem witness_FlagsWrittenByCategoryOnly :
    (∃ t, exec (.mviA 5) State.reset = .next t) ∧ writesFlag (formOf (.mviA 5)) .z = false ∧
      (∃ t, exec .inrB State.reset = .next t) ∧ writesFlag (formOf .inrB) .cy = false ∧
      (∃ t, exec .rlc State.reset = .next t) ∧ writesFlag (formOf .rlc) .ac = false :=
  ⟨⟨_, rfl⟩, rfl, ⟨_, rfl⟩, rfl, ⟨_, rfl⟩, rfl⟩

/-- A form with a destination register and one with none. -/
theorem witness_RegisterFrame :
    (∃ t, exec .movBC State.reset = .next t) ∧ Reg.c ∉ destRegs (formOf .movBC) ∧
      writesSp (formOf .movBC) = false ∧ (∃ t, exec .cmpB State.reset = .next t) ∧ Reg.a ∉ destRegs (formOf .cmpB) :=
  ⟨⟨_, rfl⟩, by decide, rfl, ⟨_, rfl⟩, by decide⟩

/-- A form that stores and an address beside the one it stores to; a call whose two bytes wrap. -/
theorem witness_MemoryFrame :
    (∃ t, exec .movMB State.reset = .next t) ∧ (1 : Word) ∉ storedAddrs (formOf .movMB) State.reset ∧
      (∃ t, exec (.call 0) State.reset = .next t) ∧
      storedAddrs (formOf (.call 0)) State.reset = [0xFFFE, 0xFFFF] :=
  ⟨⟨_, rfl⟩, by decide, ⟨_, rfl⟩, by decide⟩

/-- An instruction for each of the changes the clauses name. -/
theorem witness_ControlFrame :
    (∃ t, exec .ei State.reset = .next t ∧ t.inte ≠ State.reset.inte) ∧
      (∃ t, exec (.outPort 3) { State.reset with regs := ⟨1, 0, 0, 0, 0, 0, 0⟩ } = .next t ∧
        t.latches ≠ State.reset.latches) ∧
      execEvents (.outPort 5) State.reset ≠ [] ∧
      (∃ t, exec .hlt State.reset = .next t ∧ t.status ≠ State.reset.status) ∧
      (∃ t, exec (.outPort 0) State.reset = .next t ∧ t.status ≠ State.reset.status) ∧
      ∃ t, exec .undocumented08 State.reset = .next t ∧ t.status ≠ State.reset.status :=
  ⟨⟨_, rfl, by decide⟩, ⟨_, rfl, by decide⟩, by decide, ⟨_, rfl, by decide⟩, ⟨_, rfl, by decide⟩, _, rfl, by decide⟩

/-- AR-35: both corrections, on the digits 9 and 10. -/
theorem witness_DecimalAdjust :
    let s : State := { State.reset with regs := ⟨0x9A, 0, 0, 0, 0, 0, 0⟩ }
    10 = s.regs.a.toNat % 16 ∧ 9 = s.regs.a.toNat / 16 ∧ true = (s.flags.ac || decide (9 < 10)) ∧
      true = (s.flags.cy || decide (9 < 9) || (decide (9 ≤ 9) && decide (9 < 10))) ∧
      0x66#8 = ((if true then 0x06#8 else 0#8) ||| (if true then 0x60#8 else 0#8)) := by decide

/-- A condition that holds and one that does not, in the same flags. -/
theorem witness_Calls :
    condHolds .nz State.reset.flags = true ∧ condHolds .z State.reset.flags = false := by decide

theorem witness_Returns :
    condHolds .p State.reset.flags = true ∧ condHolds .m State.reset.flags = false := by decide

theorem witness_Pops :
    0xD7 = readByte 0 (writeByte 0 0xD7 State.reset) ∧ Reg.a ≠ pairLow .bc ∧ Reg.a ≠ pairHigh .bc := by decide

/-- The first and the last of the ports that read 0. -/
theorem witness_InputPorts : 4 ≤ (4 : Byte).toNat ∧ 4 ≤ (255 : Byte).toNat := by decide

/-- The ports beside the range 2 to 6, and the ends of the space. -/
theorem witness_UnrecognisedPortStopsTheRun :
    ∀ p ∈ ([0, 1, 7, 255] : List Byte), p.toNat ∉ [2, 3, 4, 5, 6] := by decide

theorem witness_ResetWithRomImage :
    (List.replicate 65536 (0xC3 : Byte)).length ≤ 65536 ∧ 65536 < (List.replicate 65537 (0xC3 : Byte)).length := by
  rw [List.length_replicate, List.length_replicate]; decide

/-- After HLT, before the first step and after a boundary; and inside a half-frame, at both ends. -/
theorem witness_HostWritesBetweenHalfFramesOnly :
    { State.reset with status := .halted, cycleCount := 4 }.status ≠ .running ∧ State.reset.cycleCount = 0 ∧
      16667 ≤ { State.reset with cycleCount := 16667 }.cycleCount ∧
      ∀ n ∈ [1, 16666], ({ State.reset with cycleCount := n } : State).status = .running ∧ 0 < n ∧ n < 16667 := by
  decide

end Sys2Proof.Tests
end

section
/-! PROOFS of the statements of 10_state.md: pairs, the flag functions, the flags byte, the auxiliary-carry mode, and
what an instruction leaves alone. The frames are proved of every form in every configuration, by one case for each
kind of shared operation, and read off for `exec`. -/

namespace Sys2Proof.Machine

/-! ## Frames of the operand writes -/

@[simp] theorem writeRp_flags (rp : Rp) (w : Word) (s : State) : (writeRp rp w s).flags = s.flags := by
  cases rp <;> rfl

@[simp] theorem writeOpnd_sp (o : Opnd) (v : Byte) (s : State) : (writeOpnd o v s).sp = s.sp := by
  cases o <;> rfl

/-- Writing a pair field keeps the registers it does not name. -/
theorem getReg_writeRp {rp : Rp} {q : Reg} (hq : q ∉ rpRegs rp) (w : Word) (s : State) :
    getReg q (writeRp rp w s) = getReg q s := by
  cases rp with
  | pair p => simp_all [rpRegs, writeRp, getReg_setPair]
  | sp => exact getReg_of_regs_eq q rfl

/-- Writing a register field keeps the registers it does not name. -/
theorem getReg_writeOpnd {o : Opnd} {q : Reg} (hq : q ∉ opndRegs o) (v : Byte) (s : State) :
    getReg q (writeOpnd o v s) = getReg q s := by
  cases o with
  | reg r => simp_all [opndRegs, writeOpnd, getReg_setReg]
  | m => exact getReg_writeByte _ _ _ _

/-- Writing a pair field other than SP's keeps SP. -/
theorem writeRp_sp {rp : Rp} (h : rp ≠ .sp) (w : Word) (s : State) : (writeRp rp w s).sp = s.sp := by
  cases rp with
  | pair p => rfl
  | sp => exact absurd rfl h

/-- The result of an ALU operation goes to A, and CMP's result is A itself (R260). -/
theorem getReg_setAcc_aluValue {k : AluOp} {q : Reg} (hq : q ∉ if k = .cmp then [] else [Reg.a]) (cfg : Config)
    (v : Byte) (s : State) : getReg q (setReg .a (aluValue cfg k v s).1 s) = getReg q s := by
  rw [getReg_setReg]
  split_ifs with ha
  · subst ha
    obtain rfl : k = .cmp := by simpa using hq
    rfl
  · rfl

/-! ## What the conditional operations, MVI and OUT can do -/

/-- MVI, for a register and for M. -/
theorem formMeaning_mvi (cfg : Config) (o : Opnd) (v : Byte) (s : State) :
    formMeaning cfg (.mvi o v) s = .next (advance 2 (writeOpnd o v s)) := by
  cases o <;> rfl

/-- A jump changes PC alone, taken or not. -/
theorem eq_of_jumpIf {len target : Word} {taken : Bool} {s t : State} (h : jumpIf len taken target s = .next t) :
    t = jump (if taken then target else s.pc + len) s := by
  cases taken <;> cases h <;> rfl

theorem callIf_cases {len target : Word} {taken : Bool} {s t : State} (h : callIf len taken target s = .next t) :
    (taken = true ∧ t = jump target (push (s.pc + len) s)) ∨ (taken = false ∧ t = advance len s) := by
  cases taken <;> cases h <;> simp

theorem returnIf_cases {taken : Bool} {s t : State} (h : returnIf taken s = .next t) :
    (taken = true ∧ t = jump (topWord s) (dropWord s)) ∨ (taken = false ∧ t = advance 1 s) := by
  cases taken <;> cases h <;> simp

/-- OUT changes the latches other than IN1 and IN2, the status and PC at most. -/
theorem outToPort_frame {p v : Byte} {s t : State} (h : outToPort p v s = .next t) :
    ∃ (x : Latches) (st : Status) (pc : Word), x.in1 = s.latches.in1 ∧ x.in2 = s.latches.in2 ∧
      t = { s with latches := x, status := st, pc := pc } := by
  unfold outToPort at h
  rcases portWrite_cases p v s with ⟨-, hw⟩ | ⟨-, hw⟩ | ⟨-, hw⟩ | ⟨-, hw⟩ | ⟨-, hw⟩ | ⟨-, hw⟩
  all_goals
    rw [hw] at h
    cases h
    refine ⟨_, _, _, ?_, ?_, rfl⟩ <;> rfl

/-- Only an OUT to port 3 or port 5 emits an event. -/
theorem outEvents_port {p v : Byte} {s : State} (h : outEvents p v s ≠ []) : p = 3 ∨ p = 5 := by
  rw [outEvents_eq] at h
  split_ifs at h with hp
  · exact hp
  · exact absurd rfl h

theorem outEvents_length_le (p v : Byte) (s : State) : (outEvents p v s).length ≤ 1 := by
  rw [outEvents_eq]
  split_ifs <;> simp

/-! ## Registers and SP -/

/-- In any configuration a form keeps every register outside its destinations. -/
theorem getReg_formMeaning {cfg : Config} {f : Form} {s t : State} (h : formMeaning cfg f s = .next t) {q : Reg}
    (hq : q ∉ destRegs f) : getReg q t = getReg q s := by
  cases f with
  | mvi o v => rw [formMeaning_mvi] at h; cases h; exact getReg_writeOpnd hq _ _
  | inr o | dcr o => cases h; exact getReg_writeOpnd hq _ _
  | lxi rp w | inx rp | dcx rp => cases h; exact getReg_writeRp hq _ _
  | alu k o | aluImm k v =>
    cases h
    exact getReg_setAcc_aluValue hq cfg _ s
  | jmp a | jcc cond a | pchl => obtain rfl := eq_of_jumpIf h; exact getReg_jump _ _ _
  | call a | ccc cond a | rst n => obtain ⟨-, rfl⟩ | ⟨-, rfl⟩ := callIf_cases h <;> simp
  | ret | rcc cond => obtain ⟨-, rfl⟩ | ⟨-, rfl⟩ := returnIf_cases h <;> simp
  | outPort p => obtain ⟨x, st, pc, -, -, rfl⟩ := outToPort_frame h; exact getReg_of_regs_eq q rfl
  | sphl => cases h; exact getReg_of_regs_eq q rfl
  | _ => cases h; simp_all [destRegs, getReg_setReg, getReg_setPair, writeRp, pairHigh, pairLow]

/-- In any configuration a form keeps SP unless it is one that R35 lets write it. -/
theorem formMeaning_sp {cfg : Config} {f : Form} {s t : State} (h : formMeaning cfg f s = .next t)
    (hf : writesSp f = false) : t.sp = s.sp := by
  cases f with
  | mvi o v => rw [formMeaning_mvi] at h; cases h; exact writeOpnd_sp _ _ _
  | inr o | dcr o => cases h; exact writeOpnd_sp _ _ _
  | lxi rp w | inx rp | dcx rp => cases h; exact writeRp_sp (of_decide_eq_false hf) _ _
  | jmp a | jcc cond a | pchl => obtain rfl := eq_of_jumpIf h; rfl
  | outPort p => obtain ⟨x, st, pc, -, -, rfl⟩ := outToPort_frame h; rfl
  | sphl | call _ | ccc _ _ | rst _ | ret | rcc _ | push _ | pushPsw | pop _ | popPsw => cases hf
  | _ => cases h; rfl

/-! ## Flags -/

/-- Writing CY keeps every other flag. -/
theorem flagOf_setCy {x : Flag} (hx : x ≠ .cy) (cy : Bool) (f : Flags) : flagOf x { f with cy := cy } = flagOf x f := by
  cases x with
  | cy => exact absurd rfl hx
  | z | s | p | ac => rfl

/-- In any configuration a form keeps every flag that R57's table does not let it write. -/
theorem flagOf_formMeaning {cfg : Config} {f : Form} {s t : State} (h : formMeaning cfg f s = .next t) {x : Flag}
    (hx : writesFlag f x = false) : flagOf x t.flags = flagOf x s.flags := by
  cases f with
  | alu k o | aluImm k v | daa | popPsw => cases hx
  | inr o | dcr o =>
    obtain rfl : x = .cy := by simpa [writesFlag] using hx
    cases h
    rfl
  | dad rp | rlc | rrc | ral | rar | stc | cmc => cases h; exact flagOf_setCy (of_decide_eq_false hx) _ _
  | mvi o v => rw [formMeaning_mvi] at h; cases h; cases o <;> rfl
  | lxi rp w | inx rp | dcx rp => cases h; simp
  | jmp a | jcc cond a | pchl => obtain rfl := eq_of_jumpIf h; rfl
  | call a | ccc cond a | rst n => obtain ⟨-, rfl⟩ | ⟨-, rfl⟩ := callIf_cases h <;> rfl
  | ret | rcc cond => obtain ⟨-, rfl⟩ | ⟨-, rfl⟩ := returnIf_cases h <;> rfl
  | outPort p => obtain ⟨x, st, pc, -, -, rfl⟩ := outToPort_frame h; rfl
  | _ => cases h; rfl

/-! ## The auxiliary carry's mode -/

/-- R55: no result has a low nibble above 15, so the literal rule gives 0. -/
theorem auxCarry_literal {cfg : Config} (hm : cfg.acMode = .literal) (v : Nat) (n : Bool) :
    auxCarry cfg v n = false := by
  simp only [auxCarry, hm, auxCarryLiteral, decide_eq_false_iff_not]
  omega

theorem auxCarry_nibble {cfg : Config} (hm : cfg.acMode = .nibble) (v : Nat) (n : Bool) : auxCarry cfg v n = n := by
  simp only [auxCarry, hm]

/-- In the literal mode every ALU operation clears AC. -/
theorem aluValue_ac {cfg : Config} (hm : cfg.acMode = .literal) (k : AluOp) (v : Byte) (s : State) :
    (aluValue cfg k v s).2.ac = false := by
  cases k <;> exact auxCarry_literal hm _ _

/-- In the literal mode a form that writes AC clears it, POP PSW apart. -/
theorem formMeaning_ac_of_literal {cfg : Config} (hm : cfg.acMode = .literal) {f : Form} {s t : State}
    (h : formMeaning cfg f s = .next t) (hf : writesFlag f .ac = true) (hp : f ≠ .popPsw) : t.flags.ac = false := by
  cases f with
  | alu k o | aluImm k v => cases h; exact aluValue_ac hm _ _ _
  | inr o | dcr o | daa => cases h; exact auxCarry_literal hm _ _
  | popPsw => exact absurd rfl hp
  | _ => cases hf

/-- Two results of an operation that agree but for AC. -/
def SameButAc (r r' : Byte × Flags) : Prop := r' = (r.1, { r.2 with ac := r'.2.ac })

/-- Two states that agree but for the AC flag. -/
def StatesSameButAc (t u : State) : Prop := u = { t with flags := { t.flags with ac := u.flags.ac } }

/-- The configuration reaches an ALU operation through AC alone. -/
theorem aluValue_sameButAc (cfg cfg' : Config) (k : AluOp) (v : Byte) (s : State) :
    SameButAc (aluValue cfg k v s) (aluValue cfg' k v s) := by
  cases k <;> rfl

/-- Storing results that agree but for AC, anywhere, gives states that agree but for AC. -/
theorem statesSameButAc_setFlags {r r' : Byte × Flags} (h : SameButAc r r') (len : Word) (write : Byte → State) :
    StatesSameButAc (advance len (setFlags r.2 (write r.1))) (advance len (setFlags r'.2 (write r'.1))) := by
  rw [SameButAc] at h
  rw [h]
  rfl

/-- A form's meaning in two configurations that agree on the flags byte and on port 0. -/
theorem formMeaning_sameButAc {cfg cfg' : Config} (hl : cfg.pswLayout = cfg'.pswLayout)
    (hp : cfg.port0Value = cfg'.port0Value) {f : Form} {s t u : State} (h : formMeaning cfg f s = .next t)
    (h' : formMeaning cfg' f s = .next u) : StatesSameButAc t u := by
  cases f with
  | alu k o | aluImm k v =>
    cases h; cases h'
    exact statesSameButAc_setFlags (aluValue_sameButAc cfg cfg' _ _ _) _ fun res => setReg .a res s
  | inr o =>
    cases h; cases h'
    exact statesSameButAc_setFlags (r := inc8 cfg _ _) (r' := inc8 cfg' _ _) rfl _ fun res => writeOpnd o res s
  | dcr o =>
    cases h; cases h'
    exact statesSameButAc_setFlags (r := dec8 cfg _ _) (r' := dec8 cfg' _ _) rfl _ fun res => writeOpnd o res s
  | daa =>
    cases h; cases h'
    exact statesSameButAc_setFlags (r := daa8 cfg _ _) (r' := daa8 cfg' _ _) rfl _ fun res => setReg .a res s
  | pushPsw => rw [formMeaning, pswWord, hl] at h; cases h.symm.trans h'; rfl
  | popPsw => rw [formMeaning, popPswWord, hl] at h; cases h.symm.trans h'; rfl
  | inPort p => rw [formMeaning, portRead, hp] at h; cases h.symm.trans h'; rfl
  | mvi o v => rw [formMeaning_mvi] at h h'; cases h.symm.trans h'; rfl
  | _ => cases h.symm.trans h'; rfl

/-! ## INTE, the latches, the status and the scheduler -/

/-- INTE, the latches, the status, the count and the phase are the same. -/
def SameControl (s t : State) : Prop :=
  t.inte = s.inte ∧ t.latches = s.latches ∧ t.status = s.status ∧ t.cycleCount = s.cycleCount ∧ t.phase = s.phase

theorem SameControl.refl (s : State) : SameControl s s := ⟨rfl, rfl, rfl, rfl, rfl⟩

theorem writeRp_sameControl (rp : Rp) (w : Word) (s : State) : SameControl s (writeRp rp w s) := by
  cases rp <;> exact .refl s

theorem writeOpnd_sameControl (o : Opnd) (v : Byte) (s : State) : SameControl s (writeOpnd o v s) := by
  cases o <;> exact .refl s

/-- A form that is none of EI, DI, HLT, OUT and the undocumented bytes keeps all of these and emits no event; for
those five, what they answer. -/
theorem formMeaning_control_cases {cfg : Config} {f : Form} {s t : State} (h : formMeaning cfg f s = .next t) :
    (formEvents f s = [] ∧ SameControl s t) ∨
    ((f = .ei ∨ f = .di) ∧ ∃ on, t = advance 1 (setInte on s)) ∨
    (f = .hlt ∧ t = setStatus .halted (advance 1 s)) ∨
    (∃ u, f = .undocumented u ∧ t = setStatus (.unimplemented (undocByte u)) s) ∨
    (∃ p, f = .outPort p ∧ outToPort p s.regs.a s = .next t) := by
  cases f with
  | ei => cases h; exact .inr (.inl ⟨.inl rfl, true, rfl⟩)
  | di => cases h; exact .inr (.inl ⟨.inr rfl, false, rfl⟩)
  | hlt => cases h; exact .inr (.inr (.inl ⟨rfl, rfl⟩))
  | undocumented u => cases h; exact .inr (.inr (.inr (.inl ⟨u, rfl, rfl⟩)))
  | outPort p => exact .inr (.inr (.inr (.inr ⟨p, rfl, h⟩)))
  | mvi o v => rw [formMeaning_mvi] at h; cases h; exact .inl ⟨rfl, writeOpnd_sameControl _ _ _⟩
  | inr o | dcr o => cases h; exact .inl ⟨rfl, writeOpnd_sameControl _ _ _⟩
  | lxi rp w | inx rp | dcx rp => cases h; exact .inl ⟨rfl, writeRp_sameControl _ _ _⟩
  | jmp a | jcc cond a | pchl => obtain rfl := eq_of_jumpIf h; exact .inl ⟨rfl, .refl s⟩
  | call a | ccc cond a | rst n => obtain ⟨-, rfl⟩ | ⟨-, rfl⟩ := callIf_cases h <;> exact .inl ⟨rfl, .refl s⟩
  | ret | rcc cond => obtain ⟨-, rfl⟩ | ⟨-, rfl⟩ := returnIf_cases h <;> exact .inl ⟨rfl, .refl s⟩
  | _ => cases h; exact .inl ⟨rfl, .refl s⟩

/-! ## The flags byte -/

/-- A flag's byte has the flag at its place and 0 elsewhere. -/
theorem getLsbD_flagAt (b : Bool) (pos i : Fin 8) : (flagAt b pos).getLsbD i = (b && decide (i = pos)) := by
  revert b pos i
  decide

theorem getLsbD_flagsByte (lay : PswLayout) (f : Flags) (i : Fin 8) : (flagsByte lay f).getLsbD i =
    (lay.fixed.getLsbD i || f.s && decide (i = lay.s) || f.z && decide (i = lay.z) || f.ac && decide (i = lay.ac) ||
      f.p && decide (i = lay.p) || f.cy && decide (i = lay.cy)) := by
  simp only [flagsByte, BitVec.getLsbD_or, getLsbD_flagAt]

/-- R40: a well-formed layout gives the flags back. At a flag's place the byte has that flag, since the four other
flags stand elsewhere and the fixed bit there is 0. -/
theorem flagsOfByte_flagsByte {lay : PswLayout} (h : lay.wellFormed = true) (f : Flags) :
    flagsOfByte lay (flagsByte lay f) = f := by
  simp only [PswLayout.wellFormed, Bool.and_eq_true, decide_eq_true_eq, List.nodup_cons, List.mem_cons,
    List.not_mem_nil, or_false, not_or, List.all_cons, Bool.not_eq_true'] at h
  cases f
  simp only [flagsOfByte, getLsbD_flagsByte, Flags.mk.injEq]
  grind

/-! ## Parity -/

/-- The model's count of 1 bits is the number of the byte's bits that are 1. -/
theorem popcount8_eq_countP (v : Nat) :
    popcount8 v = (List.range 8).countP fun i => (BitVec.ofNat 8 v).getLsbD i := by
  show _ = [0, 1, 2, 3, 4, 5, 6, 7].countP fun i => (BitVec.ofNat 8 v).getLsbD i
  simp only [List.countP_cons, List.countP_nil, BitVec.getLsbD_ofNat, popcount8, bit, Nat.reduceLT, decide_true,
    Bool.true_and, Nat.zero_add]
  ac_rfl

/-! ## The obligations -/

/-- Settles O25, by the numbers of the bytes of a word. -/
theorem pairsJoinTwoRegisters : Obligations.PairsJoinTwoRegisters := by
  intro w s
  refine ⟨⟨joinBytes_toNat _ _, joinBytes_toNat _ _, joinBytes_toNat _ _⟩, ⟨rfl, rfl, rfl⟩, ⟨hi8_toNat w, lo8_toNat w⟩,
    ⟨rfl, fun _ => rfl⟩, fun p => ⟨joinBytes_toNat _ _, ?_, ?_, fun r hh hl => ?_⟩⟩
  · rw [getReg_setPair, if_neg (pairHigh_ne_pairLow p), if_pos rfl, hi8_toNat]
  · rw [getReg_setPair, if_pos rfl, lo8_toNat]
  · rw [getReg_setPair, if_neg hl, if_neg hh]

/-- Settles O26, the parity by counting the bits of the byte. -/
theorem flagFunctions : Obligations.FlagFunctions := by
  refine ⟨fun v => ⟨by simp [flagZero], ?_, ?_, by simp [carryAdd]⟩, fun a b c => by simp [carrySub, bit]⟩
  · rw [flagSign, Nat.testBit_eq_decide_div_mod_eq, decide_eq_true_eq]
    omega
  · rw [flagParity, popcount8_eq_countP, evenOnes]

/-- Settles O27: the mode reaches a result through AC alone, and the literal mode clears what it writes. -/
theorem auxCarryByMode : Obligations.AuxCarryByMode := by
  refine ⟨fun _ v n hm => auxCarry_literal hm v n, fun _ v n hm => auxCarry_nibble hm v n,
    fun _ _ _ _ _ _ hl hp h h' => formMeaning_sameButAc hl hp h h', rfl, fun i s t h hac => ?_⟩
  rw [exec_eq_formMeaning] at h
  cases hf : writesFlag (formOf i) .ac with
  | false => exact .inl ((flagOf_formMeaning h hf).symm.trans hac)
  | true =>
    by_cases hp : formOf i = .popPsw
    · exact .inr (by rw [← instrOf_formOf i, hp]; rfl)
    · rw [formMeaning_ac_of_literal rfl h hf hp] at hac
      cases hac

/-- Settles O29: each place of a well-formed layout belongs to one flag. -/
theorem flagsByteRoundTrip : Obligations.FlagsByteRoundTrip := by
  refine ⟨fun lay f h => flagsOfByte_flagsByte h f, fun f => ?_, fun v => rfl⟩
  rcases f with ⟨z, s, p, cy, ac⟩
  revert z s p cy ac
  decide

/-- Settles O30, by the frame of the flags of every form. -/
theorem flagsWrittenByCategoryOnly : Obligations.FlagsWrittenByCategoryOnly := by
  intro i s t x h hx
  rw [exec_eq_formMeaning] at h
  exact flagOf_formMeaning h hx

/-- Settles O31, by the frames of the registers and of SP of every form. -/
theorem registerFrame : Obligations.RegisterFrame := by
  intro i s t h
  rw [exec_eq_formMeaning] at h
  exact ⟨fun _ hr => getReg_formMeaning h hr, formMeaning_sp h⟩

/-- Settles O33, by what each kind of form answers. -/
theorem controlFrame : Obligations.ControlFrame := by
  intro i s t h
  obtain ⟨f, rfl⟩ : ∃ f, i = instrOf f := ⟨formOf i, (instrOf_formOf i).symm⟩
  rw [exec_instrOf] at h
  rw [execEvents_instrOf]
  obtain ⟨hev, hinte, hlatches, hstatus, hcount, hphase⟩ | ⟨rfl | rfl, on, rfl⟩ | ⟨rfl, rfl⟩ | ⟨u, rfl, rfl⟩ |
    ⟨p, rfl, hout⟩ := formMeaning_control_cases h
  · simp [hev, hinte, hlatches, hstatus, hcount, hphase]
  · simp [instrOf, formEvents]
  · simp [instrOf, formEvents]
  · simp [instrOf, formEvents]
  · simp [formEvents, Instr.wellFormed, formOf_instrOf]
  · obtain ⟨x, st, pc, hin1, hin2, rfl⟩ := outToPort_frame hout
    exact ⟨absurd rfl, fun _ => ⟨p, rfl⟩, fun he => ⟨p, rfl, outEvents_port he⟩, outEvents_length_le _ _ _,
      ⟨hin1, hin2⟩, fun _ => .inr (.inl ⟨p, rfl⟩), rfl, rfl⟩

end Sys2Proof.Machine
end

section
/-! PROOFS of the statements of 20_memory.md: a read after a store, words, the stack helpers, what an instruction
stores, and the invariant. What a form does to memory is said once, in `formMeaning_mem_cases`; the frame of memory and
the canonical form are both read off it. -/

namespace Sys2Proof.Machine

/-! ## The frames of the stores -/

/-- What a byte store does, read at any address, with the addresses compared as words. -/
theorem readByte_writeByte (a b : Word) (v : Byte) (s : State) :
    readByte b (writeByte a v s) = if b = a then v else readByte b s := by
  simp only [readByte_writeByte_at, BitVec.toNat_inj]

theorem sameMemoryOutside_self (addrs : List Word) (s : State) : SameMemoryOutside addrs s s := fun _ _ => rfl

/-- A frame speaks of memory alone. -/
theorem sameMemoryOutside_of_mem_eq {addrs : List Word} {s t u : State} (h : SameMemoryOutside addrs s u)
    (hm : t.mem = u.mem) : SameMemoryOutside addrs s t := fun a ha => (readByte_of_mem_eq a hm).trans (h a ha)

theorem sameMemoryOutside_writeByte (a : Word) (v : Byte) (s : State) :
    SameMemoryOutside [a] s (writeByte a v s) := by
  intro b hb
  rw [readByte_writeByte, if_neg (List.ne_of_not_mem_cons hb)]

theorem sameMemoryOutside_writeWord (a w : Word) (s : State) :
    SameMemoryOutside [a, a + 1] s (writeWord a w s) := by
  intro b hb
  simp only [List.mem_pair, not_or] at hb
  rw [readByte_writeWord_at, if_neg hb.2, if_neg hb.1]

theorem sameMemoryOutside_push (w : Word) (s : State) :
    SameMemoryOutside [s.sp - 2, s.sp - 1] s (push w s) := by
  intro b hb
  simp only [List.mem_pair, not_or] at hb
  rw [readByte_push_at, if_neg hb.1, if_neg hb.2]

/-- R94: what a push leaves on the stack; its two addresses differ. -/
theorem pushed_push (w : Word) (s : State) : Pushed w s (push w s) := by
  have hne : s.sp - 1 ≠ s.sp - 2 := by bv_omega
  refine ⟨push_sp w s, ?_, ?_, sameMemoryOutside_push w s⟩
  · rw [readByte_push_at, if_pos rfl]
  · rw [readByte_push_at, if_neg hne, if_pos rfl]

/-! ## What a form does to memory -/

@[simp] theorem writeRp_mem (rp : Rp) (w : Word) (s : State) : (writeRp rp w s).mem = s.mem := by
  cases rp <;> rfl

/-- How memory after a form comes from memory before it: the stores there are, each at the addresses that the form's
rule lists. -/
def StoresByRule (f : Form) (s t : State) : Prop :=
  t.mem = s.mem ∨
  (∃ a v, storedAddrs f s = [a] ∧ t.mem = (writeByte a v s).mem) ∨
  (∃ a w, storedAddrs f s = [a, a + 1] ∧ t.mem = (writeWord a w s).mem) ∨
  (∃ w, storedAddrs f s = [s.sp - 2, s.sp - 1] ∧ t.mem = (push w s).mem)

/-- A register field stores nothing, or one byte at HL. -/
theorem storesByRule_writeOpnd {f : Form} {o : Opnd} {v : Byte} {s t : State}
    (ha : storedAddrs f s = opndAddrs o s) (ht : t.mem = (writeOpnd o v s).mem) : StoresByRule f s t := by
  cases o with
  | reg r => exact .inl ht
  | m => exact .inr (.inl ⟨_, v, ha, ht⟩)

/-- Everything a form can do to memory, in any configuration. -/
theorem formMeaning_mem_cases {cfg : Config} {f : Form} {s t : State} (h : formMeaning cfg f s = .next t) :
    StoresByRule f s t := by
  cases f with
  | movMR src | sta a | stax p => cases h; exact .inr (.inl ⟨_, _, rfl, rfl⟩)
  | mvi o v => rw [formMeaning_mvi] at h; cases h; exact storesByRule_writeOpnd rfl rfl
  | inr o | dcr o => cases h; exact storesByRule_writeOpnd rfl rfl
  | shld a | xthl => cases h; exact .inr (.inr (.inl ⟨_, _, rfl, rfl⟩))
  | call a | rst n | push p | pushPsw => cases h; exact .inr (.inr (.inr ⟨_, rfl, rfl⟩))
  | ccc cond a =>
    obtain ⟨hc, rfl⟩ | ⟨-, rfl⟩ := callIf_cases h
    · exact .inr (.inr (.inr ⟨_, if_pos hc, rfl⟩))
    · exact .inl rfl
  | lxi rp w | inx rp | dcx rp => cases h; exact .inl (writeRp_mem _ _ _)
  | jmp a | jcc cond a | pchl => obtain rfl := eq_of_jumpIf h; exact .inl rfl
  | ret | rcc cond => obtain ⟨-, rfl⟩ | ⟨-, rfl⟩ := returnIf_cases h <;> exact .inl rfl
  | outPort p => obtain ⟨x, st, pc, -, -, rfl⟩ := outToPort_frame h; exact .inl rfl
  | _ => cases h; exact .inl rfl

/-- Stores by the rule change no byte outside the rule's addresses. -/
theorem StoresByRule.sameMemoryOutside {f : Form} {s t : State} (h : StoresByRule f s t) :
    SameMemoryOutside (storedAddrs f s) s t := by
  obtain hm | ⟨a, v, ha, hm⟩ | ⟨a, w, ha, hm⟩ | ⟨w, ha, hm⟩ := h
  · exact sameMemoryOutside_of_mem_eq (sameMemoryOutside_self _ s) hm
  · rw [ha]; exact sameMemoryOutside_of_mem_eq (sameMemoryOutside_writeByte a v s) hm
  · rw [ha]; exact sameMemoryOutside_of_mem_eq (sameMemoryOutside_writeWord a w s) hm
  · rw [ha]; exact sameMemoryOutside_of_mem_eq (sameMemoryOutside_push w s) hm

/-- Stores by the rule keep the canonical form. -/
theorem StoresByRule.wf {f : Form} {s t : State} (h : StoresByRule f s t) (hs : Memory.wf s.mem = true) :
    Memory.wf t.mem = true := by
  obtain hm | ⟨a, v, -, hm⟩ | ⟨a, w, -, hm⟩ | ⟨w, -, hm⟩ := h <;> rw [hm]
  · exact hs
  · exact writeByte_wf a v s hs
  · exact writeWord_wf a w s hs
  · exact push_wf w s hs

/-! ## The opcode byte of a decoded instruction -/

/-- The operand bytes have no part in which row of the opcode table is decoded (R120). -/
theorem opcodeOf_decodeInstr_operands (op b1 b2 : Byte) :
    opcodeOf (decodeInstr op b1 b2) = opcodeOf (decodeInstr op 0 0) := by
  unfold decodeInstr decodeForm
  split
  · unfold decodeMisc
    split
    case h_9 => split <;> rcases rpOfCode (fieldPair op) with ⟨⟨⟩⟩ | _ <;> rfl
    case h_21 => rcases opndOfCode (fieldMid op) with ⟨⟨⟩⟩ | _ <;> rfl
    all_goals rfl
  · rfl
  · rfl
  · unfold decodeControl
    split
    case h_10 | h_19 => cases condOfCode (fieldMid op) <;> rfl
    case h_28 => cases aluOfCode (fieldMid op) <;> rfl
    all_goals rfl

/-- The instruction decoded from a byte is in that byte's row. -/
theorem opcodeOf_decodeInstr (op b1 b2 : Byte) : opcodeOf (decodeInstr op b1 b2) = op := by
  rw [opcodeOf_decodeInstr_operands]
  revert op
  decide

theorem formOf_fetchInstr (s : State) :
    formOf (fetchInstr s) = decodeForm (fetchOpcode s) (fetchFirst s) (fetchSecond s) := formOf_instrOf _

/-- The form at PC says which byte stands there. -/
theorem fetchOpcode_of_form {s : State} {f : Form} (h : formOf (fetchInstr s) = f) :
    fetchOpcode s = opcodeOf (instrOf f) := by
  rw [← h, instrOf_formOf, fetchInstr, opcodeOf_decodeInstr]

/-- The port of an OUT at PC is the byte after it. -/
theorem fetchFirst_of_outPort {s : State} {p : Byte} (h : formOf (fetchInstr s) = .outPort p) : fetchFirst s = p := by
  have hop : fetchOpcode s = 0xD3 := fetchOpcode_of_form h
  rw [formOf_fetchInstr, hop] at h
  exact Form.outPort.inj h

/-! ## A core step and the invariant -/

theorem stopExplained_of_running {s : State} (h : s.status = .running) : stopExplained s := by
  simp only [stopExplained, h]

theorem opcodeOf_undocumented (u : Undoc) : opcodeOf (instrOf (.undocumented u)) = undocByte u := by
  cases u <;> rfl

/-- An OUT at PC stops the run for an unrecognised port only, which is then the byte after it (R403). -/
theorem outToPort_stopExplained {p v : Byte} {s t : State} (hs : s.status = .running)
    (hf : formOf (fetchInstr s) = .outPort p) (h : outToPort p v s = .next t) : stopExplained t := by
  unfold outToPort at h
  rcases portWrite_cases p v s with ⟨-, hw⟩ | ⟨-, hw⟩ | ⟨-, hw⟩ | ⟨-, hw⟩ | ⟨-, hw⟩ | ⟨hp, hw⟩
  case inr.inr.inr.inr.inr =>
    rw [hw] at h
    cases h
    exact ⟨fetchOpcode_of_form hf, fetchFirst_of_outPort hf, hp⟩
  all_goals
    rw [hw] at h
    cases h
    exact stopExplained_of_running hs

/-- The instruction at PC, which has a handler, explains the status it leaves (R402 to R404). -/
theorem formMeaning_stopExplained {s t : State} (hs : s.status = .running)
    (hi : config.implemented (fetchOpcode s) = true)
    (h : formMeaning config (formOf (fetchInstr s)) s = .next t) : stopExplained t := by
  obtain ⟨-, -, -, hstatus, -⟩ | ⟨-, on, rfl⟩ | ⟨hf, rfl⟩ | ⟨u, hf, -⟩ | ⟨p, hf, hout⟩ :=
    formMeaning_control_cases h
  · exact stopExplained_of_running (hstatus.trans hs)
  · exact stopExplained_of_running hs
  · show readByte (s.pc + 1 - 1) s = 0x76
    rw [BitVec.add_sub_cancel]
    exact fetchOpcode_of_form hf
  · rw [fetchOpcode_of_form hf, opcodeOf_undocumented,
      Config.undocumented_not_implemented (cfg := config) (by decide)] at hi
    cases hi
  · exact outToPort_stopExplained hs hf hout

theorem coreStep_stopExplained {s : State} {out : StepOutput} (h : coreStep config s = .next out) :
    stopExplained out.cpu := by
  obtain ⟨hs, ⟨hi, hex, -, -⟩ | ⟨hi, rfl⟩⟩ := coreStep_cases h
  · exact formMeaning_stopExplained hs hi hex
  · exact ⟨rfl, hi⟩

/-- In any configuration a core step keeps the canonical form. -/
theorem coreStep_wf {cfg : Config} {s : State} {out : StepOutput} (h : coreStep cfg s = .next out)
    (hm : Memory.wf s.mem = true) : Memory.wf out.cpu.mem = true := by
  obtain ⟨-, ⟨-, hex, -, -⟩ | ⟨-, rfl⟩⟩ := coreStep_cases h
  · exact (formMeaning_mem_cases hex).wf hm
  · exact hm

/-- No form counts cycles. -/
theorem formMeaning_cycleCount {cfg : Config} {f : Form} {s t : State} (h : formMeaning cfg f s = .next t) :
    t.cycleCount = s.cycleCount := by
  obtain ⟨-, -, -, -, hcount, -⟩ | ⟨-, on, rfl⟩ | ⟨-, rfl⟩ | ⟨u, -, rfl⟩ | ⟨p, -, hout⟩ :=
    formMeaning_control_cases h
  · exact hcount
  · rfl
  · rfl
  · rfl
  · obtain ⟨x, st, pc, -, -, rfl⟩ := outToPort_frame hout
    rfl

/-- In any configuration a core step counts no cycles: the scheduler does. -/
theorem coreStep_cycleCount {cfg : Config} {s : State} {out : StepOutput} (h : coreStep cfg s = .next out) :
    out.cpu.cycleCount = s.cycleCount := by
  obtain ⟨-, ⟨-, hex, -, -⟩ | ⟨-, rfl⟩⟩ := coreStep_cases h
  · exact formMeaning_cycleCount hex
  · rfl

/-! ## The cost of a step and the scheduler -/

/-- R459: no opcode costs more than 18 cycles, and a conditional call or return not more than 12 before its extra. -/
theorem config_cycles_le : ∀ op : Byte,
    config.cycles op ≤ 18 ∧ ((costCondition op).isSome = true → config.cycles op ≤ 12) := by
  decide

theorem opCost_config_le (op : Byte) (f : Flags) : opCost config op f ≤ 18 := by
  obtain ⟨hle, hcond⟩ := config_cycles_le op
  have hextra : config.takenExtra = 6 := rfl
  unfold opCost
  split
  · rename_i cond hop
    have := hcond (by rw [hop]; rfl)
    split_ifs <;> omega
  · exact hle

/-- A core step that goes on costs at most 18 cycles in this machine. -/
theorem coreStep_cycles_le {s : State} {out : StepOutput} (h : coreStep config s = .next out)
    (hr : out.cpu.status = .running) : out.cycles ≤ 18 := by
  obtain ⟨-, ⟨-, -, hcycles, -⟩ | ⟨-, rfl⟩⟩ := coreStep_cases h
  · rw [hcycles, hr]
    exact opCost_config_le _ _
  · cases hr

/-- Opening a step leaves the count below the budget (R416). -/
theorem openStep_cycleCount_lt {cfg : Config} (h : 0 < cfg.halfFrameCycles) (s : State) :
    (openStep cfg s).cycleCount < cfg.halfFrameCycles := by
  rw [openStep_eq]
  split_ifs with hb
  · exact h
  · exact Nat.lt_of_not_le hb

theorem closeStep_of_running (cfg : Config) (cost : Nat) {s : State} (h : s.status = .running) :
    closeStep cfg cost s = countCycles cfg cost s := if_pos h

theorem closeStep_of_terminal (cfg : Config) (cost : Nat) {s : State} (h : s.status ≠ .running) :
    closeStep cfg cost s = s := if_neg h

/-- Counting adds the cost, at the boundary too. -/
theorem countCycles_cycleCount (cfg : Config) (cost : Nat) (s : State) :
    (countCycles cfg cost s).cycleCount = s.cycleCount + cost := by
  unfold countCycles
  split
  · obtain ⟨-, -, -, hcount, -⟩ := halfFrameBoundary_keeps { s with cycleCount := s.cycleCount + cost }
    exact hcount
  · rfl

theorem countCycles_status (cfg : Config) (cost : Nat) (s : State) : (countCycles cfg cost s).status = s.status := by
  unfold countCycles
  split
  · obtain ⟨-, -, -, -, hstatus⟩ := halfFrameBoundary_keeps { s with cycleCount := s.cycleCount + cost }
    exact hstatus
  · rfl

theorem countCycles_wf (cfg : Config) (cost : Nat) {s : State} (h : Memory.wf s.mem = true) :
    Memory.wf (countCycles cfg cost s).mem = true := by
  unfold countCycles
  split
  · exact halfFrameBoundary_wf _ h
  · exact h

/-! ## The obligations -/

/-- Settles O16. The core step explains the status it leaves and keeps memory canonical; it starts below the budget of
16667 and costs at most 18, so the count ends at 16684 or less. -/
theorem everyStepKeepsInvariant : Obligations.EveryStepKeepsInvariant := by
  intro s t hs h
  obtain ⟨out, hout, rfl⟩ := stepWith_cases h
  have hwf : Memory.wf out.cpu.mem = true := coreStep_wf hout (by rw [openStep_mem]; exact hs.memory)
  have hcount : out.cpu.cycleCount < 16667 := by
    rw [coreStep_cycleCount hout]
    exact openStep_cycleCount_lt (cfg := config) (by decide) s
  by_cases hr : out.cpu.status = .running
  · rw [closeStep_of_running _ _ hr]
    have hcost := coreStep_cycles_le hout hr
    refine ⟨countCycles_wf _ _ hwf, ?_, stopExplained_of_running (by rw [countCycles_status, hr])⟩
    rw [countCycles_cycleCount]
    omega
  · rw [closeStep_of_terminal _ _ hr]
    exact ⟨hwf, by omega, coreStep_stopExplained hout⟩

/-- Settles O20, by the laws of a read after a write. -/
theorem storeThenLoad : Obligations.StoreThenLoad := by
  intro a b v s
  refine ⟨readByte_writeByte a b v s, fun hpc => ?_, writeByte_wf a v s⟩
  rw [fetchOpcode, writeByte_pc, hpc, readByte_writeByte, if_pos rfl]

/-- Settles O21; the two addresses of a word differ, so neither byte overwrites the other. -/
theorem wordsAreLittleEndian : Obligations.WordsAreLittleEndian := by
  intro a w s
  have hne : a ≠ a + 1 := by bv_omega
  refine ⟨joinBytes_toNat _ _, ?_, ?_, sameMemoryOutside_writeWord a w s⟩
  · rw [readByte_writeWord_at, if_neg hne, if_pos rfl, lo8_toNat]
  · rw [readByte_writeWord_at, if_pos rfl, hi8_toNat]

/-- Settles O22: Push by the reads after it, Pop by the number of the word it joins. -/
theorem stackHelpers : Obligations.StackHelpers :=
  ⟨fun w s => ⟨pushed_push w s, rfl⟩, fun _ => ⟨joinBytes_toNat _ _, rfl⟩⟩

/-- Settles O32, by what each form can do to memory. -/
theorem memoryFrame : Obligations.MemoryFrame := by
  intro i s t h
  rw [exec_eq_formMeaning] at h
  exact (formMeaning_mem_cases h).sameMemoryOutside

end Sys2Proof.Machine
end

section
/-! PROOFS of the statements of 30_encoding.md: the round trips between instructions and bytes, the lengths, the
undocumented bytes, and what a step runs. The rows of the opcode table are gone through in `decodeForm_opcodeOf` (what
the decoder reads from a row's opcode), `encode_eq_cons` (what the encoder writes) and `implemented_opcodeOf`; the round
trips follow from the first two, with the operand of a form taken out (`operandBytes`) and put in (`withOperands`). -/

namespace Sys2Proof.Machine

/-! ## The operand of a form -/

/-- The operand bytes of a form, low byte first (R122, R123). -/
def operandBytes : Form → List Byte
  | .mvi _ v | .aluImm _ v | .inPort v | .outPort v => [v]
  | .lxi _ w | .lda w | .sta w | .lhld w | .shld w | .jmp w | .jcc _ w | .call w | .ccc _ w => [lo8 w, hi8 w]
  | _ => []

/-- A form with its operand, where it has one, taken from the two bytes after the opcode (R122). -/
def withOperands (b1 b2 : Byte) : Form → Form
  | .mvi o _ => .mvi o b1
  | .aluImm k _ => .aluImm k b1
  | .inPort _ => .inPort b1
  | .outPort _ => .outPort b1
  | .lxi rp _ => .lxi rp (joinBytes b2 b1)
  | .lda _ => .lda (joinBytes b2 b1)
  | .sta _ => .sta (joinBytes b2 b1)
  | .lhld _ => .lhld (joinBytes b2 b1)
  | .shld _ => .shld (joinBytes b2 b1)
  | .jmp _ => .jmp (joinBytes b2 b1)
  | .jcc cond _ => .jcc cond (joinBytes b2 b1)
  | .call _ => .call (joinBytes b2 b1)
  | .ccc cond _ => .ccc cond (joinBytes b2 b1)
  | f => f

/-- The decoder reads a row's opcode byte back to the row, and the operand from the two bytes after it. -/
theorem decodeForm_opcodeOf (i : Instr) (b1 b2 : Byte) :
    decodeForm (opcodeOf i) b1 b2 = withOperands b1 b2 (formOf i) := by
  cases i <;> simp only [opcodeOf, encode, List.headD_cons] <;> rfl

/-- The encoder writes the opcode byte and the form's operand. -/
theorem encode_eq_cons (i : Instr) : encode i = opcodeOf i :: operandBytes (formOf i) := by
  cases i <;> rfl

theorem formLength_withOperands (b1 b2 : Byte) (f : Form) : formLength (withOperands b1 b2 f) = formLength f := by
  cases f <;> rfl

/-- R120: the length counts the opcode byte and the operand bytes. -/
theorem length_operandBytes (f : Form) : (operandBytes f).length + 1 = formLength f := by
  cases f <;> rfl

/-- The operand of a form is as many of the two bytes as the form's length covers. -/
theorem operandBytes_withOperands (b1 b2 : Byte) (f : Form) :
    operandBytes (withOperands b1 b2 f) = [b1, b2].take (formLength f - 1) := by
  cases f with
  | lxi | lda | sta | lhld | shld | jmp | jcc | call | ccc =>
    simp [withOperands, operandBytes, formLength]
  | _ => rfl

/-- A form is unchanged when its own operand is put in. -/
theorem withOperands_operandBytes (f : Form) :
    withOperands ((operandBytes f).getD 0 0) ((operandBytes f).getD 1 0) f = f := by
  cases f with
  | lxi | lda | sta | lhld | shld | jmp | jcc | call | ccc => simp [withOperands, operandBytes]
  | _ => rfl

/-! ## The length -/

theorem formLength_cases (f : Form) : formLength f = 1 ∨ formLength f = 2 ∨ formLength f = 3 := by
  cases f <;> simp [formLength]

theorem lengthOf_cases (op : Byte) : lengthOf op = 1 ∨ lengthOf op = 2 ∨ lengthOf op = 3 := formLength_cases _

theorem lengthOf_opcodeOf (i : Instr) : lengthOf (opcodeOf i) = formLength (formOf i) := by
  rw [lengthOf, decodeForm_opcodeOf, formLength_withOperands]

/-! ## The two round trips -/

theorem formOf_decodeInstr (op b1 b2 : Byte) : formOf (decodeInstr op b1 b2) = decodeForm op b1 b2 :=
  formOf_instrOf _

/-- R134: every byte is the opcode of a row. -/
theorem exists_opcodeOf (op : Byte) : ∃ i, opcodeOf i = op := ⟨decodeInstr op 0 0, opcodeOf_decodeInstr op 0 0⟩

/-- The bytes of a decoded instruction are those its length covers. -/
theorem encode_decodeInstr (op b1 b2 : Byte) : encode (decodeInstr op b1 b2) = [op, b1, b2].take (lengthOf op) := by
  obtain ⟨i, rfl⟩ := exists_opcodeOf op
  rw [encode_eq_cons, opcodeOf_decodeInstr, formOf_decodeInstr, decodeForm_opcodeOf, operandBytes_withOperands,
    lengthOf_opcodeOf]
  obtain h | h | h := formLength_cases (formOf i) <;> rw [h] <;> rfl

/-- An instruction is decoded from its own bytes. -/
theorem decodeInstr_encode (i : Instr) :
    decodeInstr (opcodeOf i) ((encode i).getD 1 0) ((encode i).getD 2 0) = i := by
  rw [encode_eq_cons, decodeInstr, decodeForm_opcodeOf, List.getD_cons_succ, List.getD_cons_succ,
    withOperands_operandBytes, instrOf_formOf]

/-- No two instructions have the same bytes. -/
theorem encode_injective : Function.Injective encode := by
  intro i j h
  calc i = decodeInstr (opcodeOf i) ((encode i).getD 1 0) ((encode i).getD 2 0) := (decodeInstr_encode i).symm
    _ = decodeInstr (opcodeOf j) ((encode j).getD 1 0) ((encode j).getD 2 0) := by rw [opcodeOf, opcodeOf, h]
    _ = j := decodeInstr_encode j

/-- R121: bytes that the length does not cover have no part in the instruction. -/
theorem decodeInstr_congr {op b1 b2 c1 c2 : Byte}
    (h : [op, b1, b2].take (lengthOf op) = [op, c1, c2].take (lengthOf op)) :
    decodeInstr op b1 b2 = decodeInstr op c1 c2 :=
  encode_injective (by rw [encode_decodeInstr, encode_decodeInstr, h])

/-- The list decoder takes the bytes that the length covers, and no others. -/
theorem decode_take_append (op b1 b2 : Byte) (rest : List Byte) :
    decode ([op, b1, b2].take (lengthOf op) ++ rest) = .ok (decodeInstr op b1 b2, rest) := by
  obtain h | h | h := lengthOf_cases op
  · have hi : decodeInstr op b1 b2 = decodeInstr op 0 0 := decodeInstr_congr (by rw [h]; rfl)
    simp [decode, h, hi]
  · have hi : decodeInstr op b1 b2 = decodeInstr op b1 0 := decodeInstr_congr (by rw [h]; rfl)
    simp [decode, h, hi]
  · simp [decode, h]

/-- Three bytes are enough for any opcode. -/
theorem decode_cons_cons_cons (op b1 b2 : Byte) (rest : List Byte) :
    decode (op :: b1 :: b2 :: rest) =
      .ok (decodeInstr op b1 b2, (b1 :: b2 :: rest).drop (lengthOf op - 1)) := by
  rw [← decode_take_append op b1 b2]
  obtain h | h | h := lengthOf_cases op <;> rw [h] <;> rfl

/-! ## Documented bytes -/

/-- R132: this machine has a handler for the opcode of a row exactly when the row is documented. -/
theorem implemented_opcodeOf (i : Instr) : config.implemented (opcodeOf i) = i.wellFormed := by
  cases i <;> rfl

/-- R131: the bytes without a handler in this machine. -/
theorem implemented_eq_false_iff (op : Byte) : config.implemented op = false ↔ op ∈ undocumentedBytes := by
  show (!undocumentedBytes.contains op) = false ↔ _
  rw [Bool.not_eq_false', List.contains_iff_mem]

/-! ## Fetching and the scheduler around a step -/

@[simp] theorem openStep_flags (cfg : Config) (s : State) : (openStep cfg s).flags = s.flags := by
  rw [openStep_eq]; split <;> rfl

@[simp] theorem readByte_openStep (cfg : Config) (a : Word) (s : State) :
    readByte a (openStep cfg s) = readByte a s :=
  readByte_of_mem_eq a (openStep_mem cfg s)

@[simp] theorem fetchOpcode_openStep (cfg : Config) (s : State) : fetchOpcode (openStep cfg s) = fetchOpcode s := by
  simp [fetchOpcode]

@[simp] theorem fetchInstr_openStep (cfg : Config) (s : State) : fetchInstr (openStep cfg s) = fetchInstr s := by
  simp [fetchInstr, fetchOpcode, fetchFirst, fetchSecond]

/-- What three bytes at PC decode to is the instruction that the step fetches. -/
theorem eq_fetchInstr_of_decode {s : State} {i : Instr} {rest : List Byte}
    (h : decode [readByte s.pc s, readByte (s.pc + 1) s, readByte (s.pc + 2) s] = .ok (i, rest)) :
    i = fetchInstr s := by
  rw [decode_cons_cons_cons] at h
  cases h
  rfl

theorem opcodeOf_fetchInstr (s : State) : opcodeOf (fetchInstr s) = fetchOpcode s := opcodeOf_decodeInstr _ _ _

/-- The scheduler counts the reported cycles of a step that goes on, which are the cost of its opcode. -/
theorem closeStep_reportedCycles (cfg : Config) (op : Byte) (f : Flags) (t : State) :
    closeStep cfg (reportedCycles cfg op f t.status) t = closeStep cfg (opCost cfg op f) t := by
  by_cases h : t.status = .running
  · rw [h]
    rfl
  · rw [closeStep_of_terminal _ _ h, closeStep_of_terminal _ _ h]

/-- The core step of an instruction with a handler. -/
theorem coreStep_of_execWith {cfg : Config} {s t : State} (hs : s.status = .running)
    (hi : cfg.implemented (fetchOpcode s) = true) (h : execWith cfg (fetchInstr s) s = .next t) :
    coreStep cfg s = .next { cpu := t, cycles := reportedCycles cfg (fetchOpcode s) s.flags t.status,
                             events := execEvents (fetchInstr s) s } :=
  (coreStep_of_implemented hs hi).trans (runInstr_of_next _ h)

/-- The step of an instruction with a handler: its meaning in the state that the scheduler opens, then the count of
its cost. -/
theorem stepWith_of_execWith {cfg : Config} {s t : State} (hs : s.status = .running)
    (hi : cfg.implemented (fetchOpcode s) = true) (h : execWith cfg (fetchInstr s) (openStep cfg s) = .next t) :
    stepWith cfg s = .next (closeStep cfg (opCost cfg (fetchOpcode s) s.flags) t) := by
  have hcore := coreStep_of_execWith (cfg := cfg) (s := openStep cfg s) (t := t) (by simpa) (by simpa) (by simpa)
  rw [stepWith_of_next hcore, closeStep_reportedCycles, fetchOpcode_openStep, openStep_flags]

/-! ## The obligations -/

/-- Settles O1: the instruction is decoded from its own bytes, and the list decoder takes no others. -/
theorem encodeThenDecodeReturnsInstruction : Obligations.EncodeThenDecodeReturnsInstruction := by
  intro i rest
  rw [← decodeInstr_encode i, encode_decodeInstr, decode_take_append]

/-- Settles O2, by the operand bytes of what each row's opcode decodes to. -/
theorem decodeThenEncodeReturnsBytes : Obligations.DecodeThenEncodeReturnsBytes := encode_decodeInstr

/-- Settles O3: the encoder writes as many bytes as the form's length counts, and the decoder takes as many. -/
theorem lengthFixedByOpcode : Obligations.LengthFixedByOpcode := by
  refine ⟨fun i => ?_, lengthOf_cases, decode_cons_cons_cons⟩
  rw [encode_eq_cons, List.length_cons, length_operandBytes, lengthOf_opcodeOf]

/-- Settles O4: the row decoded has this opcode, and this machine has a handler for a documented row's opcode. -/
theorem everyByteDocumentedOrUndocumented : Obligations.EveryByteDocumentedOrUndocumented := by
  intro op b1 b2
  have hop := opcodeOf_decodeInstr op b1 b2
  have himpl : config.implemented op = (decodeInstr op b1 b2).wellFormed := by
    rw [← implemented_opcodeOf, hop]
  exact ⟨by rw [← himpl]; exact implemented_eq_false_iff op, hop, himpl⟩

/-- Settles O5, by running the decoder on each word. -/
theorem specWordsDecode : Obligations.SpecWordsDecode :=
  ⟨rfl, rfl, rfl, rfl, rfl, rfl, rfl, rfl, rfl⟩

/-- Settles O6: the bytes at PC decode to the instruction the step fetches, and the scheduler's opening changes neither
them nor the flags. -/
theorem stepRunsDecodedInstruction : Obligations.StepRunsDecodedInstruction := by
  intro s i rest hs hdec
  obtain rfl := eq_fetchInstr_of_decode hdec
  refine ⟨fun t hwf h => ?_, fun cfg t hi => ?_, exec_eq_execWith _ s⟩
  · rw [← implemented_opcodeOf, opcodeOf_fetchInstr] at hwf
    rw [exec_eq_execWith] at h
    rw [opcodeOf_fetchInstr]
    exact stepWith_of_execWith hs hwf h
  · rw [opcodeOf_fetchInstr] at hi ⊢
    exact ⟨coreStep_of_execWith hs hi, stepWith_of_execWith hs hi⟩

end Sys2Proof.Machine
end

section
/-! PROOFS of the statements of 40_data_transfer.md: what the loads into a register or a pair field and the byte
stores do, said once for each shape, and the encodings of the rows that have them. -/

namespace Sys2Proof.Machine

/-! ## Loads and stores by their shape -/

/-- An instruction that is an 8-bit load changes its register and PC alone. -/
theorem loadsReg_of_exec {i : Instr} {len : Word} {r : Reg} {v : Byte} {s : State} (h : exec i s = loadReg len r v s) :
    ∃ t, exec i s = .next t ∧ LoadsReg r v len s t := by
  refine ⟨_, h, ?_, fun q hq => ?_, rfl⟩
  · rw [getReg_advance, getReg_setReg, if_pos rfl]
  · rw [getReg_advance, getReg_setReg, if_neg hq]

theorem loadsPair_advance_setPair (p : Pair) (w len : Word) (s : State) :
    LoadsPair p w len s (advance len (setPair p w s)) := by
  refine ⟨getPair_setPair_same p w s, fun q hhigh hlow => ?_, rfl⟩
  rw [getReg_advance, getReg_setPair, if_neg hlow, if_neg hhigh]

/-- An instruction that is a 16-bit load changes what its pair field names and PC alone. -/
theorem loadsRp_of_exec {i : Instr} {len : Word} {rp : Rp} {w : Word} {s : State} (h : exec i s = loadRp len rp w s) :
    ∃ t, exec i s = .next t ∧ LoadsRp rp w len s t := by
  refine ⟨_, h, ?_⟩
  cases rp with
  | pair p => exact loadsPair_advance_setPair p w len s
  | sp => rfl

/-- An instruction that is a byte store changes its byte and PC alone. -/
theorem storesByte_of_exec {i : Instr} {len addr : Word} {v : Byte} {s : State}
    (h : exec i s = storeByte len addr v s) : ∃ t, exec i s = .next t ∧ StoresByte addr v len s t := by
  refine ⟨_, h, ?_, sameMemoryOutside_of_mem_eq (sameMemoryOutside_writeByte addr v s) rfl, rfl⟩
  rw [readByte_advance, readByte_writeByte, if_pos rfl]

@[simp] theorem lo8_readWord (a : Word) (s : State) : lo8 (readWord a s) = readByte a s := lo8_joinBytes _ _

@[simp] theorem hi8_readWord (a : Word) (s : State) : hi8 (readWord a s) = readByte (a + 1) s := hi8_joinBytes _ _

@[simp] theorem lo8_getPair (p : Pair) (s : State) : lo8 (getPair p s) = getReg (pairLow p) s := lo8_joinBytes _ _

@[simp] theorem hi8_getPair (p : Pair) (s : State) : hi8 (getPair p s) = getReg (pairHigh p) s := hi8_joinBytes _ _

/-! ## The encodings with a field -/

theorem encode_movRR (dst src : Reg) :
    encode (instrOf (.movRR dst src)) = [byte233 0b01 (regCode dst) (regCode src)] := by
  cases dst <;> cases src <;> rfl

theorem encode_movRM (dst : Reg) : encode (instrOf (.movRM dst)) = [byte233 0b01 (regCode dst) 0b110] := by
  cases dst <;> rfl

theorem encode_movMR (src : Reg) : encode (instrOf (.movMR src)) = [byte233 0b01 0b110 (regCode src)] := by
  cases src <;> rfl

theorem encode_mvi (dst : Reg) (v : Byte) :
    encode (instrOf (.mvi (.reg dst) v)) = [byte233 0b00 (regCode dst) 0b110, v] := by
  cases dst <;> rfl

theorem encode_lxi (rp : Rp) (w : Word) :
    encode (instrOf (.lxi rp w)) = [byte224 0b00 (rpCode rp) 0b0001, lo8 w, hi8 w] := by
  rcases rp with (_ | _ | _) | _ <;> rfl

theorem encode_inx (rp : Rp) : encode (instrOf (.inx rp)) = [byte224 0b00 (rpCode rp) 0b0011] := by
  rcases rp with (_ | _ | _) | _ <;> rfl

theorem encode_dcx (rp : Rp) : encode (instrOf (.dcx rp)) = [byte224 0b00 (rpCode rp) 0b1011] := by
  rcases rp with (_ | _ | _) | _ <;> rfl

/-! ## The word transfers of HL -/

theorem exec_lhld (a : Word) (s : State) : exec (.lhld a) s = .next { s with
    regs := { s.regs with l := readByte a s, h := readByte (a + 1) s }, pc := s.pc + 3 } := by
  calc exec (.lhld a) s = .next (advance 3 (setPair .hl (readWord a s) s)) := exec_eq_formMeaning (.lhld a) s
    _ = _ := by rw [setPair, lo8_readWord, hi8_readWord]; rfl

/-- SHLD writes the word HL, whose low byte is L and whose high byte is H; the two addresses differ even where the
second wraps. -/
theorem exec_shld (a : Word) (s : State) :
    ∃ t, exec (.shld a) s = .next t ∧ readByte a t = s.regs.l ∧ readByte (a + 1) t = s.regs.h ∧
      SameMemoryOutside [a, a + 1] s t ∧ t = { s with mem := t.mem, pc := s.pc + 3 } := by
  have hne : a ≠ a + 1 := by bv_omega
  refine ⟨_, exec_eq_formMeaning (.shld a) s, ?low, ?high,
    sameMemoryOutside_of_mem_eq (sameMemoryOutside_writeWord a (getPair .hl s) s) rfl, rfl⟩
  case low => rw [readByte_advance, readByte_writeWord_at, if_neg hne, if_pos rfl, lo8_getPair]; rfl
  case high => rw [readByte_advance, readByte_writeWord_at, if_pos rfl, hi8_getPair]; rfl

/-- XCHG: the pair written second takes its value from the state before the first. -/
theorem exec_xchg (s : State) : exec .xchg s = .next { s with
    regs := { s.regs with d := s.regs.h, e := s.regs.l, h := s.regs.d, l := s.regs.e }, pc := s.pc + 1 } := by
  calc exec .xchg s = .next (advance 1 (setPair .hl (getPair .de s) (setPair .de (getPair .hl s) s))) :=
        exec_eq_formMeaning .xchg s
    _ = _ := by simp only [setPair, lo8_getPair, hi8_getPair]; rfl

/-! ## The obligations -/

/-- Settles O34: each of these rows is an 8-bit load, of a value read in the state before it. -/
theorem loadsIntoRegister : Obligations.LoadsIntoRegister := by
  refine ⟨fun dst src s => ⟨encode_movRR dst src, ?movRR⟩, fun dst s => ⟨encode_movRM dst, ?movRM⟩,
    fun dst v s => ⟨encode_mvi dst v, ?mvi⟩, fun a s => ⟨rfl, ?lda⟩, fun s => ⟨rfl, rfl, ?ldaxB, ?ldaxD⟩⟩
  case movRR => exact loadsReg_of_exec (exec_instrOf (.movRR dst src) s)
  case movRM => exact loadsReg_of_exec (exec_instrOf (.movRM dst) s)
  case mvi => exact loadsReg_of_exec (exec_instrOf (.mvi (.reg dst) v) s)
  case lda => exact loadsReg_of_exec (exec_eq_formMeaning (.lda a) s)
  case ldaxB => exact loadsReg_of_exec (exec_eq_formMeaning .ldaxB s)
  case ldaxD => exact loadsReg_of_exec (exec_eq_formMeaning .ldaxD s)

/-- Settles O35: each of these rows is a byte store. -/
theorem byteStores : Obligations.ByteStores := by
  refine ⟨fun r s => ⟨encode_movMR r, ?movMR⟩, fun v s => ⟨rfl, ?mviM⟩, fun a s => ⟨rfl, ?sta⟩,
    fun s => ⟨rfl, rfl, ?staxB, ?staxD⟩⟩
  case movMR => exact storesByte_of_exec (exec_instrOf (.movMR r) s)
  case mviM => exact storesByte_of_exec (exec_eq_formMeaning (.mviM v) s)
  case sta => exact storesByte_of_exec (exec_eq_formMeaning (.sta a) s)
  case staxB => exact storesByte_of_exec (exec_eq_formMeaning .staxB s)
  case staxD => exact storesByte_of_exec (exec_eq_formMeaning .staxD s)

/-- Settles O36: LXI, INX and DCX are the 16-bit load of the immediate and of the old value one up or down. -/
theorem pairLoadsAndSteps : Obligations.PairLoadsAndSteps :=
  ⟨fun rp w s => ⟨encode_lxi rp w, loadsRp_of_exec (exec_instrOf (.lxi rp w) s)⟩,
    fun rp s => ⟨encode_inx rp, loadsRp_of_exec (exec_instrOf (.inx rp) s)⟩,
    fun rp s => ⟨encode_dcx rp, loadsRp_of_exec (exec_instrOf (.dcx rp) s)⟩⟩

/-- Settles O37: LHLD is a 16-bit load into HL, SHLD a 16-bit store of it, XCHG a write of both pairs. -/
theorem wordTransfersOfHl : Obligations.WordTransfersOfHl :=
  ⟨fun a s => ⟨rfl, exec_lhld a s⟩, fun a s => ⟨rfl, exec_shld a s⟩, fun s => ⟨rfl, exec_xchg s⟩⟩

end Sys2Proof.Machine
end

section
/-! PROOFS of the statements of 41_arithmetic.md: the shared 8-bit operations, then the instructions that are one of
them. Z, S and P are those of the stored byte for every operation, so they are said once, of `setZSP`. -/

namespace Sys2Proof.Machine

/-! ## The flags of a stored result -/

theorem flagZero_eq_decide (v : Nat) : flagZero v = decide (stored v = 0) := by
  rw [Bool.eq_iff_iff, flagZero, beq_iff_eq, decide_eq_true_eq, stored, ← BitVec.toNat_inj, BitVec.toNat_ofNat]
  rfl

theorem flagSign_eq_getLsbD (v : Nat) : flagSign v = (stored v).getLsbD 7 := by
  rw [flagSign, stored, BitVec.getLsbD_ofNat]
  rfl

theorem flagParity_eq_evenOnes (v : Nat) : flagParity v = evenOnes (stored v) := by
  rw [flagParity, popcount8_eq_countP]
  rfl

/-- R56: Z, S and P of the widened result are those of the byte stored. -/
theorem zspOf_setZSP (v : Nat) (f : Flags) : ZspOf (stored v) (setZSP v f) :=
  ⟨flagZero_eq_decide v, flagSign_eq_getLsbD v, flagParity_eq_evenOnes v⟩

/-- Z, S and P do not depend on how CY and AC are written. -/
theorem ZspOf.withCarries {v : Byte} {f : Flags} (h : ZspOf v f) (cy ac : Bool) :
    ZspOf v { f with cy := cy, ac := ac } := h

/-! ## The sums and differences -/

/-- The byte stored for a widened sum is the sum of bytes. -/
theorem stored_toNat_add (a : Byte) (n : Nat) : stored (a.toNat + n) = a + BitVec.ofNat 8 n := by
  rw [stored, BitVec.ofNat_add, BitVec.ofNat_toNat, BitVec.setWidth_eq]

theorem bit_le_one (c : Bool) : bit c ≤ 1 := by
  cases c <;> decide

/-- The byte stored for the 16-bit residue of a difference is the difference of bytes (R202). -/
theorem stored_sub_residue (a b : Byte) (c : Bool) :
    stored ((65536 + a.toNat - b.toNat - bit c) % 65536) = a - b - BitVec.ofNat 8 (bit c) := by
  have hc := bit_le_one c
  have hb := b.isLt
  apply BitVec.eq_of_toNat_eq
  simp only [stored, BitVec.toNat_ofNat, BitVec.toNat_sub]
  omega

section
variable (cfg : Config) (a b : Byte) (c : Bool) (f : Flags)

theorem add8_fst : (add8 cfg a b c f).1 = a + b + BitVec.ofNat 8 (bit c) := by
  rw [BitVec.add_assoc, add8, Nat.add_assoc, stored_toNat_add, BitVec.ofNat_add, BitVec.ofNat_toNat,
    BitVec.setWidth_eq]

theorem zspOf_add8 : ZspOf (add8 cfg a b c f).1 (add8 cfg a b c f).2 := (zspOf_setZSP _ f).withCarries _ _

theorem add8_cy : (add8 cfg a b c f).2.cy = decide (255 < a.toNat + b.toNat + bit c) := rfl

theorem sub8_fst : (sub8 cfg a b c f).1 = a - b - BitVec.ofNat 8 (bit c) := stored_sub_residue a b c

theorem zspOf_sub8 : ZspOf (sub8 cfg a b c f).1 (sub8 cfg a b c f).2 := (zspOf_setZSP _ f).withCarries _ _

theorem sub8_cy : (sub8 cfg a b c f).2.cy = decide (a.toNat < b.toNat + bit c) := rfl

end

/-! ## Instructions that write A and the flags -/

/-- An instruction that writes a result to A with its five flags, AC among them 0, changes A, the flags and PC alone. -/
theorem accOutcome_of_exec {i : Instr} {len : Word} {r : Byte × Flags} {res : Byte} {s : State}
    (h : exec i s = .next (advance len (setFlags r.2 (setReg .a r.1 s)))) (hzsp : ZspOf res r.2)
    (hac : r.2.ac = false) : ∃ t, exec i s = .next t ∧ AccOutcome r.1 res r.2.cy len s t :=
  ⟨_, h, rfl, hzsp, rfl, hac, rfl⟩

/-- This machine's ALU operations clear AC. -/
theorem accOutcome_of_exec_accWith {i : Instr} {k : AluOp} {len : Word} {v res : Byte} {s : State}
    (h : exec i s = accWith config k len v s) (hzsp : ZspOf res (aluValue config k v s).2) :
    ∃ t, exec i s = .next t ∧
      AccOutcome (aluValue config k v s).1 res (aluValue config k v s).2.cy len s t :=
  accOutcome_of_exec h hzsp (aluValue_ac rfl k v s)

/-- R206 to R208: the sum with a carry in. -/
theorem accOutcome_of_exec_adc {i : Instr} {len : Word} {v : Byte} {s : State}
    (h : exec i s = accWith config .adc len v s) : ∃ t, exec i s = .next t ∧
      AccOutcome (s.regs.a + v + BitVec.ofNat 8 (bit s.flags.cy)) (s.regs.a + v + BitVec.ofNat 8 (bit s.flags.cy))
        (decide (255 < s.regs.a.toNat + v.toNat + bit s.flags.cy)) len s t := by
  rw [← add8_fst config s.regs.a v s.flags.cy s.flags, ← add8_cy config s.regs.a v s.flags.cy s.flags]
  exact accOutcome_of_exec_accWith h (zspOf_add8 ..)

/-- R203 to R205: the sum with no carry in. -/
theorem accOutcome_of_exec_add {i : Instr} {len : Word} {v : Byte} {s : State}
    (h : exec i s = accWith config .add len v s) : ∃ t, exec i s = .next t ∧
      AccOutcome (s.regs.a + v) (s.regs.a + v) (decide (255 < s.regs.a.toNat + v.toNat)) len s t := by
  have hsum : (add8 config s.regs.a v false s.flags).1 = s.regs.a + v := (add8_fst ..).trans (BitVec.add_zero _)
  rw [← hsum]
  exact accOutcome_of_exec_accWith h (zspOf_add8 ..)

/-- R212 to R214: the difference with a borrow in. -/
theorem accOutcome_of_exec_sbb {i : Instr} {len : Word} {v : Byte} {s : State}
    (h : exec i s = accWith config .sbb len v s) : ∃ t, exec i s = .next t ∧
      AccOutcome (s.regs.a - v - BitVec.ofNat 8 (bit s.flags.cy)) (s.regs.a - v - BitVec.ofNat 8 (bit s.flags.cy))
        (decide (s.regs.a.toNat < v.toNat + bit s.flags.cy)) len s t := by
  rw [← sub8_fst config s.regs.a v s.flags.cy s.flags, ← sub8_cy config s.regs.a v s.flags.cy s.flags]
  exact accOutcome_of_exec_accWith h (zspOf_sub8 ..)

/-- R209 to R211: the difference with no borrow in. -/
theorem accOutcome_of_exec_sub {i : Instr} {len : Word} {v : Byte} {s : State}
    (h : exec i s = accWith config .sub len v s) : ∃ t, exec i s = .next t ∧
      AccOutcome (s.regs.a - v) (s.regs.a - v) (decide (s.regs.a.toNat < v.toNat)) len s t := by
  have hdiff : (sub8 config s.regs.a v false s.flags).1 = s.regs.a - v := (sub8_fst ..).trans (BitVec.sub_zero _)
  rw [← hdiff]
  exact accOutcome_of_exec_accWith h (zspOf_sub8 ..)

/-! ## INR and DCR -/

theorem inc8_fst (cfg : Config) (old : Byte) (f : Flags) : (inc8 cfg old f).1 = old + 1 := stored_toNat_add old 1

theorem dec8_fst (cfg : Config) (old : Byte) (f : Flags) : (dec8 cfg old f).1 = old - 1 :=
  (stored_sub_residue old 1 false).trans (BitVec.sub_zero _)

theorem inc8_ac {cfg : Config} (hm : cfg.acMode = .literal) (old : Byte) (f : Flags) :
    (inc8 cfg old f).2.ac = false := auxCarry_literal hm _ _

theorem dec8_ac {cfg : Config} (hm : cfg.acMode = .literal) (old : Byte) (f : Flags) :
    (dec8 cfg old f).2.ac = false := auxCarry_literal hm _ _

theorem stepFlags_inc8 (old : Byte) (s : State) :
    StepFlags (inc8 config old s.flags).1 s (setFlags (inc8 config old s.flags).2 s) :=
  ⟨(zspOf_setZSP _ s.flags).withCarries _ _, rfl, inc8_ac rfl _ _⟩

theorem stepFlags_dec8 (old : Byte) (s : State) :
    StepFlags (dec8 config old s.flags).1 s (setFlags (dec8 config old s.flags).2 s) :=
  ⟨(zspOf_setZSP _ s.flags).withCarries _ _, rfl, dec8_ac rfl _ _⟩

/-- An instruction that writes a register and the flags. -/
theorem loadsReg_stepFlags_of_exec {i : Instr} {r : Reg} {res : Byte × Flags} {v : Byte} {s : State}
    (h : exec i s = .next (advance 1 (setFlags res.2 (setReg r res.1 s))))
    (hv : res.1 = v) (hf : StepFlags res.1 s (setFlags res.2 s)) :
    ∃ t, exec i s = .next t ∧ LoadsReg r v 1 { s with flags := t.flags } t ∧ StepFlags v s t := by
  subst hv
  refine ⟨_, h, ⟨?_, fun q hq => ?_, rfl⟩, hf⟩
  · rw [getReg_advance, getReg_setFlags, getReg_setReg, if_pos rfl]
  · rw [getReg_advance, getReg_setFlags, getReg_setReg, if_neg hq]
    exact (getReg_setFlags res.2 q s).symm

/-- An instruction that writes a byte and the flags. -/
theorem storesByte_stepFlags_of_exec {i : Instr} {addr : Word} {res : Byte × Flags} {v : Byte} {s : State}
    (h : exec i s = .next (advance 1 (setFlags res.2 (writeByte addr res.1 s))))
    (hv : res.1 = v) (hf : StepFlags res.1 s (setFlags res.2 s)) :
    ∃ t, exec i s = .next t ∧ StoresByte addr v 1 { s with flags := t.flags } t ∧ StepFlags v s t := by
  subst hv
  refine ⟨_, h, ⟨?_, sameMemoryOutside_of_mem_eq (sameMemoryOutside_writeByte addr res.1 s) rfl, rfl⟩, hf⟩
  rw [readByte_advance, readByte_setFlags, readByte_writeByte, if_pos rfl]

/-! ## DAD -/

/-- HL becomes the sum of the 16-bit words; the flags other than CY are those from before. -/
theorem exec_dad (rp : Rp) (s : State) : ∃ t, exec (instrOf (.dad rp)) s = .next t ∧
    getPair .hl t = getPair .hl s + readRp rp s ∧
    t = { s with
      regs := { s.regs with h := t.regs.h, l := t.regs.l },
      flags := { s.flags with cy := decide (65535 < (getPair .hl s).toNat + (readRp rp s).toNat) },
      pc := s.pc + 1 } :=
  ⟨_, exec_instrOf (.dad rp) s, getPair_setPair_same .hl _ s, rfl⟩

/-! ## DAA -/

/-- The two corrections have no bit in common, so joining them is adding them. -/
theorem daa_corrections_or_eq_add (low high : Bool) :
    ((if low then 0x06#8 else 0#8) ||| (if high then 0x60#8 else 0#8)) =
      BitVec.ofNat 8 ((if low then 0x06 else 0) + (if high then 0x60 else 0)) := by
  cases low <;> cases high <;> rfl

theorem daa8_fst (cfg : Config) (a : Byte) (f : Flags) : (daa8 cfg a f).1 =
    a + ((if daaLow a f then 0x06#8 else 0#8) ||| (if daaHigh a f then 0x60#8 else 0#8)) := by
  rw [daa_corrections_or_eq_add]
  exact stored_toNat_add a _

/-- A set CY makes the high correction apply, so CY after DAA is whether it did. -/
theorem daa8_cy (cfg : Config) (a : Byte) (f : Flags) : (daa8 cfg a f).2.cy = daaHigh a f := by
  show (f.cy || daaHigh a f) = daaHigh a f
  simp only [daaHigh, ← Bool.or_assoc, Bool.or_self]

theorem daa8_ac {cfg : Config} (hm : cfg.acMode = .literal) (a : Byte) (f : Flags) :
    (daa8 cfg a f).2.ac = false := auxCarry_literal hm _ _

theorem zspOf_daa8 (cfg : Config) (a : Byte) (f : Flags) : ZspOf (daa8 cfg a f).1 (daa8 cfg a f).2 :=
  (zspOf_setZSP _ f).withCarries _ _

/-! ## The encodings with a field -/

theorem encode_alu (k : AluOp) (o : Opnd) :
    encode (instrOf (.alu k o)) = [byte233 0b10 (aluCode k) (opndCode o)] := by
  cases k <;> rcases o with ⟨⟨⟩⟩ | _ <;> rfl

theorem encode_inr (r : Reg) : encode (instrOf (.inr (.reg r))) = [byte233 0b00 (regCode r) 0b100] := by
  cases r <;> rfl

theorem encode_dcr (r : Reg) : encode (instrOf (.dcr (.reg r))) = [byte233 0b00 (regCode r) 0b101] := by
  cases r <;> rfl

theorem encode_dad (rp : Rp) : encode (instrOf (.dad rp)) = [byte224 0b00 (rpCode rp) 0b1001] := by
  rcases rp with (_ | _ | _) | _ <;> rfl

/-! ## The obligations -/

/-- Settles O28: the sum and the difference of bytes, read as numbers; the complement of `b` in the nibble mode's
clause for a subtraction has the low digit 15 minus that of `b`. -/
theorem addAndSubtractAlgebra : Obligations.AddAndSubtractAlgebra := by
  intro cfg a b c f
  have hc := bit_le_one c
  refine ⟨⟨?sum, zspOf_add8 cfg a b c f, ?carry, fun hm => auxCarry_literal hm _ _, fun hm => ?addAc⟩,
    ⟨?difference, zspOf_sub8 cfg a b c f, ?borrow, fun hm => auxCarry_literal hm _ _, fun hm => ?subAc⟩⟩
  case sum =>
    simp only [add8_fst, BitVec.toNat_add, BitVec.toNat_ofNat]
    omega
  case carry => rw [add8_cy, decide_eq_true_eq]
  case addAc => rw [add8, auxCarry_nibble hm, decide_eq_true_eq]
  case difference =>
    simp only [sub8_fst, BitVec.toNat_sub, BitVec.toNat_ofNat]
    omega
  case borrow => rw [sub8_cy, decide_eq_true_eq]
  case subAc =>
    rw [sub8, auxCarry_nibble hm, decide_eq_true_eq, BitVec.toNat_not]
    omega

/-- Settles O38: each of these rows is `Add8` on A. -/
theorem additions : Obligations.Additions :=
  ⟨fun o s => ⟨encode_alu .add o, accOutcome_of_exec_add (exec_instrOf (.alu .add o) s)⟩,
    fun v s => ⟨rfl, accOutcome_of_exec_add (exec_eq_formMeaning (.adi v) s)⟩,
    fun o s => ⟨encode_alu .adc o, accOutcome_of_exec_adc (exec_instrOf (.alu .adc o) s)⟩,
    fun v s => ⟨rfl, accOutcome_of_exec_adc (exec_eq_formMeaning (.aci v) s)⟩⟩

/-- Settles O39: each of these rows is `Sub8` on A. -/
theorem subtractions : Obligations.Subtractions :=
  ⟨fun o s => ⟨encode_alu .sub o, accOutcome_of_exec_sub (exec_instrOf (.alu .sub o) s)⟩,
    fun v s => ⟨rfl, accOutcome_of_exec_sub (exec_eq_formMeaning (.sui v) s)⟩,
    fun o s => ⟨encode_alu .sbb o, accOutcome_of_exec_sbb (exec_instrOf (.alu .sbb o) s)⟩,
    fun v s => ⟨rfl, accOutcome_of_exec_sbb (exec_eq_formMeaning (.sbi v) s)⟩⟩

/-- Settles O43: each of these rows writes its operand and the flags of the step up or down. -/
theorem incrementsAndDecrements : Obligations.IncrementsAndDecrements := by
  refine ⟨fun r s => ⟨encode_inr r, ?inrReg⟩, fun r s => ⟨encode_dcr r, ?dcrReg⟩, fun s => ⟨rfl, ?inrM⟩,
    fun s => ⟨rfl, ?dcrM⟩⟩
  case inrReg =>
    exact loadsReg_stepFlags_of_exec (exec_instrOf (.inr (.reg r)) s) (inc8_fst ..) (stepFlags_inc8 _ s)
  case dcrReg =>
    exact loadsReg_stepFlags_of_exec (exec_instrOf (.dcr (.reg r)) s) (dec8_fst ..) (stepFlags_dec8 _ s)
  case inrM => exact storesByte_stepFlags_of_exec (exec_eq_formMeaning .inrM s) (inc8_fst ..) (stepFlags_inc8 _ s)
  case dcrM => exact storesByte_stepFlags_of_exec (exec_eq_formMeaning .dcrM s) (dec8_fst ..) (stepFlags_dec8 _ s)

/-- Settles O44, by the number of the 16-bit sum. -/
theorem doubleAdd : Obligations.DoubleAdd := by
  intro rp s
  obtain ⟨t, hexec, hsum, hframe⟩ := exec_dad rp s
  exact ⟨encode_dad rp, t, hexec, by rw [hsum, BitVec.toNat_add], hframe⟩

/-- Settles O45: the hypotheses name the model's two tests and their corrections. -/
theorem decimalAdjust : Obligations.DecimalAdjust := by
  refine ⟨rfl, fun s lsn msn low high corr hlsn hmsn hlow hhigh hcorr => ?_⟩
  subst hlsn hmsn
  obtain rfl : low = daaLow s.regs.a s.flags := hlow
  obtain rfl : high = daaHigh s.regs.a s.flags := hhigh
  rw [hcorr, ← daa8_fst config, ← daa8_cy config]
  exact accOutcome_of_exec (exec_eq_formMeaning .daa s) (zspOf_daa8 ..) (daa8_ac rfl ..)

end Sys2Proof.Machine
end

section
/-! PROOFS of the statements of 42_logical.md: the logical operations and the comparison on A, then the rotates. A
rotate is taken as a map of A and CY together (`accCarry`), so running it again is iterating the map
(`repeatExec_eq_iterate`). It moves each bit of a ring, of the eight bits of A or of the nine of CY and A, by a fixed
number of places, so it restores the ring after as many steps as the ring has bits (`iterate_width_restores`). -/

namespace Sys2Proof.Machine

/-! ## The logical operations -/

theorem zspOf_logicFlags (cfg : Config) (v : Byte) (n : Bool) (f : Flags) : ZspOf v (logicFlags cfg v n f) := by
  have hv : stored v.toNat = v := (BitVec.ofNat_toNat ..).trans (BitVec.setWidth_eq v)
  have h := zspOf_setZSP v.toNat f
  rw [hv] at h
  exact h.withCarries _ _

/-- R55: an instruction whose clause gives no auxiliary carry clears AC in both modes. -/
theorem auxCarry_false (cfg : Config) (v : Nat) : auxCarry cfg v false = false := by
  cases hm : cfg.acMode with
  | literal => exact auxCarry_literal hm v false
  | nibble => exact auxCarry_nibble hm v false

/-- R251 to R259: an instruction whose result and flags are those of `Logic8`. -/
theorem accOutcome_of_exec_logic {i : Instr} {k : AluOp} {len : Word} {v res : Byte} {n : Bool} {s : State}
    (h : exec i s = accWith config k len v s)
    (hk : aluValue config k v s = (res, logicFlags config res n s.flags)) :
    ∃ t, exec i s = .next t ∧ AccOutcome res res false len s t := by
  have ht := accOutcome_of_exec_accWith (res := res) h (by rw [hk]; exact zspOf_logicFlags ..)
  rwa [hk] at ht

/-- R260 to R262: the flags are those of the difference with no borrow in, and A is written back unchanged. -/
theorem accOutcome_of_exec_cmp {i : Instr} {len : Word} {v : Byte} {s : State}
    (h : exec i s = accWith config .cmp len v s) : ∃ t, exec i s = .next t ∧
      AccOutcome s.regs.a (s.regs.a - v) (decide (s.regs.a.toNat < v.toNat)) len s t := by
  have hdiff : (sub8 config s.regs.a v false s.flags).1 = s.regs.a - v := (sub8_fst ..).trans (BitVec.sub_zero _)
  rw [← hdiff]
  exact accOutcome_of_exec_accWith h (zspOf_sub8 ..)

/-! ## The bits that a rotate moves -/

/-- A flag joined to a byte stands in bit 0. -/
theorem getLsbD_ofNat_bit (c : Bool) (i : Nat) : (BitVec.ofNat 8 (bit c)).getLsbD i = (decide (i = 0) && c) := by
  cases c with
  | false => simp [bit]
  | true => simp [bit, BitVec.getLsbD_one]

section
variable (a : Byte) (cy : Bool) {i : Nat} (hi : i < 8)
include hi

/-- R263: RLC moves every bit up by one place, bit 7 to bit 0; up by one is down by seven of eight places. -/
theorem getLsbD_rlc8 : (rlc8 a).1.getLsbD i = a.getLsbD ((i + 7) % 8) := by
  rcases i with _ | i
  · simp [rlc8]
  · have hmod : (i + 1 + 7) % 8 = i := by omega
    simp [rlc8, BitVec.getLsbD_rotateLeft, hi, hmod, -BitVec.getLsbD_eq_getElem]

/-- R264: RRC moves every bit down by one place, bit 0 to bit 7. -/
theorem getLsbD_rrc8 : (rrc8 a).1.getLsbD i = a.getLsbD ((i + 1) % 8) := by
  rcases Nat.lt_or_ge i 7 with h | h
  · have hmod : (i + 1) % 8 = 1 + i := by omega
    simp [rrc8, BitVec.getLsbD_rotateRight, h, hmod, -BitVec.getLsbD_eq_getElem]
  · obtain rfl : i = 7 := by omega
    simp [rrc8]

/-- R265: RAL moves every bit up by one place and fills bit 0 from CY. -/
theorem getLsbD_ral8 : (ral8 a cy).1.getLsbD i = if i = 0 then cy else a.getLsbD (i - 1) := by
  rcases i with _ | i
  · simp [ral8, getLsbD_ofNat_bit, -BitVec.getLsbD_eq_getElem]
  · simp [ral8, getLsbD_ofNat_bit, hi, -BitVec.getLsbD_eq_getElem]

/-- R266: RAR moves every bit down by one place and fills bit 7 from CY. -/
theorem getLsbD_rar8 : (rar8 a cy).1.getLsbD i = if i = 7 then cy else a.getLsbD (i + 1) := by
  rcases Nat.lt_or_ge i 7 with h | h
  · simp [rar8, getLsbD_ofNat_bit, h, Nat.ne_of_lt h, Nat.add_comm 1]
  · obtain rfl : i = 7 := by omega
    simp [rar8, getLsbD_ofNat_bit, -BitVec.getLsbD_eq_getElem]

end

/-! ## Rotations of a ring -/

/-- The ring that RAL and RAR rotate: CY above the eight bits of A. -/
def carryRing (x : Byte × Bool) : BitVec 9 := BitVec.cons x.2 x.1

theorem carryRing_injective : Function.Injective carryRing := by
  rintro ⟨a, cy⟩ ⟨b, cy'⟩ h
  have ha : a = b := by simpa [carryRing] using congrArg (BitVec.setWidth 8) h
  have hcy : cy = cy' := by simpa [carryRing] using congrArg BitVec.msb h
  rw [ha, hcy]

/-- RAL moves every bit of the ring up by one place, which is down by eight of nine places. -/
theorem getLsbD_carryRing_ral8 (x : Byte × Bool) {i : Nat} (hi : i < 9) :
    (carryRing (ral8 x.1 x.2)).getLsbD i = (carryRing x).getLsbD ((i + 8) % 9) := by
  simp only [carryRing, BitVec.getLsbD_cons]
  rcases i with _ | i
  · exact getLsbD_ral8 x.1 x.2 (by decide)
  · have hmod : (i + 1 + 8) % 9 = i := by omega
    have hne : i ≠ 8 := by omega
    rw [hmod, if_neg hne]
    rcases Nat.lt_or_ge i 7 with h | h
    · rw [if_neg (by omega), getLsbD_ral8 _ _ (by omega), if_neg (by omega), Nat.add_sub_cancel]
    · obtain rfl : i = 7 := by omega
      rfl

/-- RAR moves every bit of the ring down by one place. -/
theorem getLsbD_carryRing_rar8 (x : Byte × Bool) {i : Nat} (hi : i < 9) :
    (carryRing (rar8 x.1 x.2)).getLsbD i = (carryRing x).getLsbD ((i + 1) % 9) := by
  simp only [carryRing, BitVec.getLsbD_cons]
  rcases Nat.lt_or_ge i 8 with h | h
  · have hmod : (i + 1) % 9 = i + 1 := by omega
    rw [if_neg (by omega), getLsbD_rar8 _ _ h, hmod]
    simp
  · obtain rfl : i = 8 := by omega
    rfl

section
variable {α : Type} {w k : Nat} {ring : α → BitVec w} {f : α → α}
  (hf : ∀ x i, i < w → (ring (f x)).getLsbD i = (ring x).getLsbD ((i + k) % w))
include hf

/-- A map that moves the bits of a ring by `k` places moves them by `k * n` places in `n` steps. -/
theorem getLsbD_iterate (n : Nat) (x : α) {i : Nat} (hi : i < w) :
    (ring (f^[n] x)).getLsbD i = (ring x).getLsbD ((i + k * n) % w) := by
  induction n generalizing x with
  | zero => rw [Function.iterate_zero_apply, Nat.mul_zero, Nat.add_zero, Nat.mod_eq_of_lt hi]
  | succ n ih =>
    rw [Function.iterate_succ_apply, ih, hf _ _ (Nat.mod_lt _ (by omega)), Nat.mod_add_mod, Nat.add_assoc, Nat.mul_succ]

/-- After as many steps as the ring has bits, every bit is back at its place. -/
theorem iterate_width_restores (x : α) : ring (f^[w] x) = ring x := by
  apply BitVec.eq_of_getLsbD_eq
  intro i hi
  rw [getLsbD_iterate hf w x hi, Nat.add_mul_mod_self_right, Nat.mod_eq_of_lt hi]

end

/-- A rotation of A by a fixed number of places that leaves in CY a bit of its own result. -/
theorem iterate_eight_restores {rot : Byte → Byte × Bool} {k j : Nat}
    (hrot : ∀ a i, i < 8 → (rot a).1.getLsbD i = a.getLsbD ((i + k) % 8))
    (hcy : ∀ a, (rot a).2 = (rot a).1.getLsbD j) (x : Byte × Bool) :
    (fun y => rot y.1)^[8] x = (x.1, x.1.getLsbD j) := by
  have ha : ((fun y => rot y.1)^[8] x).1 = x.1 := iterate_width_restores (ring := Prod.fst) (fun y => hrot y.1) x
  have hlast : ((fun y => rot y.1)^[8] x).2 = ((fun y => rot y.1)^[8] x).1.getLsbD j := by
    rw [Function.iterate_succ_apply']
    exact hcy _
  rw [ha] at hlast
  exact Prod.ext ha hlast

theorem iterate_rlc8 (x : Byte × Bool) : (fun y => rlc8 y.1)^[8] x = (x.1, x.1.getLsbD 0) :=
  iterate_eight_restores (fun a _ => getLsbD_rlc8 a) (fun a => (getLsbD_rlc8 a (i := 0) (by decide)).symm) x

theorem iterate_rrc8 (x : Byte × Bool) : (fun y => rrc8 y.1)^[8] x = (x.1, x.1.getLsbD 7) :=
  iterate_eight_restores (fun a _ => getLsbD_rrc8 a) (fun a => (getLsbD_rrc8 a (i := 7) (by decide)).symm) x

theorem iterate_ral8 (x : Byte × Bool) : (fun y => ral8 y.1 y.2)^[9] x = x :=
  carryRing_injective (iterate_width_restores (fun y _ => getLsbD_carryRing_ral8 y) x)

theorem iterate_rar8 (x : Byte × Bool) : (fun y => rar8 y.1 y.2)^[9] x = x :=
  carryRing_injective (iterate_width_restores (fun y _ => getLsbD_carryRing_rar8 y) x)

/-! ## Instructions that write A and CY -/

/-- A and CY together, which a rotate reads and writes. -/
def accCarry (s : State) : Byte × Bool := (s.regs.a, s.flags.cy)

/-- A state with other A and CY, at another PC. -/
def withAccCarry (x : Byte × Bool) (len : Word) (s : State) : State :=
  { s with regs := { s.regs with a := x.1 }, flags := { s.flags with cy := x.2 }, pc := s.pc + len }

theorem setAccCarry_eq (x : Byte × Bool) (s : State) : setAccCarry x s = .next (withAccCarry x 1 s) := rfl

@[simp] theorem accCarry_withAccCarry (x : Byte × Bool) (len : Word) (s : State) :
    accCarry (withAccCarry x len s) = x := rfl

theorem withAccCarry_withAccCarry (x y : Byte × Bool) (m n : Word) (s : State) :
    withAccCarry y n (withAccCarry x m s) = withAccCarry y (m + n) s := by
  simp [withAccCarry, BitVec.add_assoc]

/-- An instruction that writes to A and CY what `f` makes of them, run `n` times, writes what `n` steps of `f` make of
them. -/
theorem repeatExec_eq_iterate {i : Instr} {f : Byte × Bool → Byte × Bool}
    (h : ∀ s, exec i s = setAccCarry (f (accCarry s)) s) (n : Nat) (s : State) :
    repeatExec i n s = .next (withAccCarry (f^[n] (accCarry s)) (BitVec.ofNat 16 n) s) := by
  induction n generalizing s with
  | zero => simp [repeatExec, withAccCarry, accCarry]
  | succ n ih =>
    have hn : 1 + BitVec.ofNat 16 n = BitVec.ofNat 16 (n + 1) := by rw [Nat.add_comm, BitVec.ofNat_add]; rfl
    simp only [repeatExec, h, setAccCarry_eq]
    rw [ih, accCarry_withAccCarry, withAccCarry_withAccCarry, hn, Function.iterate_succ_apply]

/-- An instruction that writes A and CY has a rotate's outcome. -/
theorem rotateOutcome_of_exec {i : Instr} {x : Byte × Bool} {s : State} {bits : Nat → Bool}
    (h : exec i s = setAccCarry x s) (hbits : ∀ i, i < 8 → x.1.getLsbD i = bits i) :
    ∃ (t : State) (a : Byte), exec i s = .next t ∧ RotateOutcome a x.2 s t ∧ ∀ i, i < 8 → a.getLsbD i = bits i :=
  ⟨_, _, h, rfl, hbits⟩

theorem exec_rlc (s : State) : exec .rlc s = setAccCarry (rlc8 s.regs.a) s := exec_eq_formMeaning .rlc s

theorem exec_rrc (s : State) : exec .rrc s = setAccCarry (rrc8 s.regs.a) s := exec_eq_formMeaning .rrc s

theorem exec_ral (s : State) : exec .ral s = setAccCarry (ral8 s.regs.a s.flags.cy) s := exec_eq_formMeaning .ral s

theorem exec_rar (s : State) : exec .rar s = setAccCarry (rar8 s.regs.a s.flags.cy) s := exec_eq_formMeaning .rar s

/-! ## The obligations -/

/-- Settles O40: each of these rows is `Sub8` on A without its result. -/
theorem comparisons : Obligations.Comparisons :=
  ⟨fun o s => ⟨encode_alu .cmp o, accOutcome_of_exec_cmp (exec_instrOf (.alu .cmp o) s)⟩,
    fun v s => ⟨rfl, accOutcome_of_exec_cmp (exec_eq_formMeaning (.cpi v) s)⟩⟩

/-- Settles O41: each of these rows is `Logic8` on A. -/
theorem logicalOperations : Obligations.LogicalOperations := by
  refine ⟨fun o s => ⟨encode_alu .ana o, encode_alu .xra o, encode_alu .ora o, ?ana, ?xra, ?ora⟩,
    fun v s => ⟨rfl, rfl, rfl, ?ani, ?xri, ?ori⟩⟩
  case ana => exact accOutcome_of_exec_logic (exec_instrOf (.alu .ana o) s) rfl
  case xra => exact accOutcome_of_exec_logic (exec_instrOf (.alu .xra o) s) rfl
  case ora => exact accOutcome_of_exec_logic (exec_instrOf (.alu .ora o) s) rfl
  case ani => exact accOutcome_of_exec_logic (exec_eq_formMeaning (.ani v) s) rfl
  case xri => exact accOutcome_of_exec_logic (exec_eq_formMeaning (.xri v) s) rfl
  case ori => exact accOutcome_of_exec_logic (exec_eq_formMeaning (.ori v) s) rfl

/-- Settles O42: the three operations share their flags, and differ in AC by the clause each gives the mode. -/
theorem logicAlgebra : Obligations.LogicAlgebra := by
  intro cfg a b f
  refine ⟨⟨rfl, zspOf_logicFlags .., rfl, fun hm => auxCarry_literal hm _ _, fun hm => ?andAc⟩,
    ⟨rfl, zspOf_logicFlags .., rfl, auxCarry_false cfg _⟩, ⟨rfl, zspOf_logicFlags .., rfl, auxCarry_false cfg _⟩⟩
  case andAc => exact (auxCarry_nibble hm _ _).trans BitVec.getLsbD_or

/-- Settles O46: each of these rows writes A and CY, and its bits are those its rotate moves there. -/
theorem rotates : Obligations.Rotates := by
  refine ⟨⟨rfl, rfl, rfl, rfl⟩, fun s => ⟨?rlc, ?rrc, ?ral, ?rar⟩⟩
  case rlc => exact rotateOutcome_of_exec (exec_rlc s) fun _ hi => getLsbD_rlc8 _ hi
  case rrc => exact rotateOutcome_of_exec (exec_rrc s) fun _ hi => getLsbD_rrc8 _ hi
  case ral => exact rotateOutcome_of_exec (exec_ral s) fun _ hi => getLsbD_ral8 _ _ hi
  case rar => exact rotateOutcome_of_exec (exec_rar s) fun _ hi => getLsbD_rar8 _ _ hi

/-- Settles O47: eight steps of a ring of eight bits, nine of a ring of nine. -/
theorem repeatedRotationsRestore : Obligations.RepeatedRotationsRestore := by
  intro s
  refine ⟨?rlc, ?rrc, ?ral, ?rar⟩
  case rlc => rw [repeatExec_eq_iterate (f := fun x => rlc8 x.1) exec_rlc, iterate_rlc8]; rfl
  case rrc => rw [repeatExec_eq_iterate (f := fun x => rrc8 x.1) exec_rrc, iterate_rrc8]; rfl
  case ral => rw [repeatExec_eq_iterate (f := fun x => ral8 x.1 x.2) exec_ral, iterate_ral8]; rfl
  case rar => rw [repeatExec_eq_iterate (f := fun x => rar8 x.1 x.2) exec_rar, iterate_rar8]; rfl

/-- Settles O48: CMA is a load of A's complement, CMC and STC write CY. -/
theorem complementAndCarry : Obligations.ComplementAndCarry :=
  ⟨⟨rfl, rfl, rfl⟩, fun s => ⟨⟨_, exec_eq_formMeaning .cma s, BitVec.toNat_not, rfl⟩,
    exec_eq_formMeaning .cmc s, exec_eq_formMeaning .stc s⟩⟩

end Sys2Proof.Machine
end

section
/-! PROOFS of the statements of 43_branch.md: what a jump, a call and a return do, taken and not taken, said once for
each shape; the encodings and the costs of the conditional rows; and that a RET undoes the push before it. -/

namespace Sys2Proof.Machine

/-! ## Jumps, calls and returns by their shape -/

/-- R310, R328: a taken call pushes the address of the next instruction and changes PC beside it. -/
theorem pushes_of_exec_callIf {i : Instr} {len target : Word} {taken : Bool} {s : State}
    (h : exec i s = callIf len taken target s) (ht : taken = true) :
    ∃ t, exec i s = .next t ∧ Pushed (s.pc + len) s t ∧ t = { s with mem := t.mem, sp := t.sp, pc := target } := by
  subst ht
  exact ⟨_, h, pushed_push (s.pc + len) s, rfl⟩

theorem advances_of_exec_callIf {i : Instr} {len target : Word} {taken : Bool} {s : State}
    (h : exec i s = callIf len taken target s) (ht : taken = false) : exec i s = .next { s with pc := s.pc + len } := by
  subst ht
  exact h

/-- R319: a taken return takes PC from the two bytes at SP and raises SP past them. -/
theorem pops_of_exec_returnIf {i : Instr} {taken : Bool} {s : State} (h : exec i s = returnIf taken s)
    (ht : taken = true) : ∃ t, exec i s = .next t ∧ t = { s with sp := s.sp + 2, pc := t.pc } ∧
      t.pc.toNat = (readByte (s.sp + 1) s).toNat * 256 + (readByte s.sp s).toNat := by
  subst ht
  exact ⟨_, h, rfl, joinBytes_toNat _ _⟩

theorem advances_of_exec_returnIf {i : Instr} {taken : Bool} {s : State} (h : exec i s = returnIf taken s)
    (ht : taken = false) : exec i s = .next { s with pc := s.pc + 1 } := by
  subst ht
  exact h

theorem jumpIf_eq (len target : Word) (taken : Bool) (s : State) :
    jumpIf len taken target s = .next { s with pc := if taken then target else s.pc + len } := by
  cases taken <;> rfl

/-- R129: the eight vectors are below 65536, so none of them wraps. -/
theorem restartVector_toNat (n : Fin 8) : (restartVector n.val).toNat = 8 * n.val := by
  rw [restartVector, BitVec.toNat_ofNat]
  omega

/-! ## The encodings with a field -/

theorem encode_jcc (cond : Cond) (a : Word) :
    encode (instrOf (.jcc cond a)) = [byte233 0b11 (condCode cond) 0b010, lo8 a, hi8 a] := by
  cases cond <;> rfl

theorem encode_ccc (cond : Cond) (a : Word) :
    encode (instrOf (.ccc cond a)) = [byte233 0b11 (condCode cond) 0b100, lo8 a, hi8 a] := by
  cases cond <;> rfl

theorem encode_rcc (cond : Cond) : encode (instrOf (.rcc cond)) = [byte233 0b11 (condCode cond) 0b000] := by
  cases cond <;> rfl

theorem encode_rst (n : Fin 8) : encode (instrOf (.rst n)) = [byte233 0b11 (BitVec.ofNat 3 n.val) 0b111] := by
  fin_cases n <;> rfl

/-! ## The cost of the conditional rows -/

/-- R460: an opcode without a condition has one cost. -/
theorem opCost_of_costCondition_none {op : Byte} (h : costCondition op = none) (cfg : Config) (f : Flags) :
    opCost cfg op f = cfg.cycles op := by
  rw [opCost, h]

/-- R460: the extra of a conditional call or return is for the case that its condition holds. -/
theorem opCost_of_costCondition_some {op : Byte} {cond : Cond} (h : costCondition op = some cond) (cfg : Config)
    (f : Flags) :
    opCost cfg op f = if condHolds cond f then cfg.cycles op + cfg.takenExtra else cfg.cycles op := by
  rw [opCost, h]

theorem opcodeOf_jcc (cond : Cond) (a : Word) :
    opcodeOf (instrOf (.jcc cond a)) = byte233 0b11 (condCode cond) 0b010 := by
  rw [opcodeOf, encode_jcc, List.headD_cons]

theorem opcodeOf_ccc (cond : Cond) (a : Word) :
    opcodeOf (instrOf (.ccc cond a)) = byte233 0b11 (condCode cond) 0b100 := by
  rw [opcodeOf, encode_ccc, List.headD_cons]

theorem opcodeOf_rcc (cond : Cond) : opcodeOf (instrOf (.rcc cond)) = byte233 0b11 (condCode cond) 0b000 := by
  rw [opcodeOf, encode_rcc, List.headD_cons]

/-- R122: the opcodes `11 ccc 010` have no condition that their cost depends on. -/
theorem costCondition_jcc (cond : Cond) (a : Word) : costCondition (opcodeOf (instrOf (.jcc cond a))) = none := by
  rw [opcodeOf_jcc]
  cases cond <;> rfl

theorem costCondition_ccc (cond : Cond) (a : Word) :
    costCondition (opcodeOf (instrOf (.ccc cond a))) = some cond := by
  rw [opcodeOf_ccc]
  cases cond <;> rfl

theorem costCondition_rcc (cond : Cond) : costCondition (opcodeOf (instrOf (.rcc cond))) = some cond := by
  rw [opcodeOf_rcc]
  cases cond <;> rfl

theorem cycles_jcc (cond : Cond) (a : Word) : config.cycles (opcodeOf (instrOf (.jcc cond a))) = 10 := by
  rw [opcodeOf_jcc]
  cases cond <;> rfl

theorem cycles_ccc (cond : Cond) (a : Word) : config.cycles (opcodeOf (instrOf (.ccc cond a))) = 11 := by
  rw [opcodeOf_ccc]
  cases cond <;> rfl

theorem cycles_rcc (cond : Cond) : config.cycles (opcodeOf (instrOf (.rcc cond))) = 5 := by
  rw [opcodeOf_rcc]
  cases cond <;> rfl

theorem opCost_jcc (cond : Cond) (a : Word) (f : Flags) :
    opCost config (opcodeOf (instrOf (.jcc cond a))) f = 10 := by
  rw [opCost_of_costCondition_none (costCondition_jcc cond a), cycles_jcc]

theorem opCost_ccc (cond : Cond) (a : Word) (f : Flags) :
    opCost config (opcodeOf (instrOf (.ccc cond a))) f = if condHolds cond f then 11 + 6 else 11 := by
  rw [opCost_of_costCondition_some (costCondition_ccc cond a), cycles_ccc]
  rfl

theorem opCost_rcc (cond : Cond) (f : Flags) :
    opCost config (opcodeOf (instrOf (.rcc cond))) f = if condHolds cond f then 5 + 6 else 5 := by
  rw [opCost_of_costCondition_some (costCondition_rcc cond), cycles_rcc]
  rfl

/-! ## A return after a push -/

/-- RET in a state with the stack of a push takes PC to the word pushed and SP back to where it was (R94, R95). -/
theorem eq_of_ret_after_push {w : Word} {s t u : State} (hmem : t.mem = (push w s).mem) (hsp : t.sp = (push w s).sp)
    (h : exec .ret t = .next u) : u = { t with sp := s.sp, pc := w } := by
  obtain ⟨-, rfl⟩ | ⟨hf, -⟩ := returnIf_cases ((exec_eq_formMeaning .ret t).symm.trans h)
  · have hback : t.sp + 2 = s.sp := by rw [hsp, push_sp, BitVec.sub_add_cancel]
    rw [topWord_of_eq hmem hsp, topWord_push, dropWord, hback, jump]
  · cases hf

/-! ## The obligations -/

/-- Settles O24: the call and the entry each leave the stack of a push of the address to return to. -/
theorem callThenReturnRestores : Obligations.CallThenReturnRestores := by
  refine ⟨fun a s t u hcall hret => ?call, fun n s u hret => ?entry⟩
  case call =>
    obtain ⟨-, rfl⟩ | ⟨hf, -⟩ := callIf_cases ((exec_eq_formMeaning (.call a) s).symm.trans hcall)
    · obtain rfl := eq_of_ret_after_push (w := s.pc + 3) (s := s) rfl rfl hret
      exact ⟨rfl, rfl, rfl⟩
    · cases hf
  case entry =>
    obtain rfl := eq_of_ret_after_push (w := s.pc) (s := s) (t := takeInterrupt n s) rfl rfl hret
    exact ⟨rfl, rfl, rfl, rfl, rfl⟩

/-- Settles O49: each of these rows changes PC alone, to its target or past itself. -/
theorem jumps : Obligations.Jumps := by
  refine ⟨fun f => by simp [condHolds], fun a s => ⟨rfl, exec_eq_formMeaning (.jmp a) s⟩,
    fun cond a s => ⟨encode_jcc cond a, ?jcc, opCost_jcc cond a⟩, fun s => ⟨rfl, exec_eq_formMeaning .pchl s⟩⟩
  case jcc => exact (exec_instrOf (.jcc cond a) s).trans (jumpIf_eq 3 a _ s)

/-- Settles O50: each of these rows is a call, of its operand or of its vector. -/
theorem calls : Obligations.Calls := by
  refine ⟨fun a s => ⟨rfl, ?call⟩, fun cond a s => ⟨encode_ccc cond a, ?taken, ?notTaken, opCost_ccc cond a⟩,
    fun n s => ⟨encode_rst n, ?rst⟩⟩
  case call => exact pushes_of_exec_callIf (exec_eq_formMeaning (.call a) s) rfl
  case taken => exact pushes_of_exec_callIf (exec_instrOf (.ccc cond a) s)
  case notTaken => exact advances_of_exec_callIf (exec_instrOf (.ccc cond a) s)
  case rst => exact ⟨_, exec_instrOf (.rst n) s, pushed_push (s.pc + 1) s, restartVector_toNat n, rfl⟩

/-- Settles O51: each of these rows is a return. -/
theorem returns : Obligations.Returns := by
  refine ⟨fun s => ⟨rfl, ?ret⟩, fun cond s => ⟨encode_rcc cond, ?taken, ?notTaken, opCost_rcc cond⟩⟩
  case ret => exact pops_of_exec_returnIf (exec_eq_formMeaning .ret s) rfl
  case taken => exact pops_of_exec_returnIf (exec_instrOf (.rcc cond) s)
  case notTaken => exact advances_of_exec_returnIf (exec_instrOf (.rcc cond) s)

end Sys2Proof.Machine
end

section
/-! PROOFS of the statements of 44_stack_io_control.md: PUSH, POP and the exchanges of the stack, IN and OUT by the
port, and the machine control. That a pop undoes a push is said once, of the stack (`pop_after_pushWord`), and read
off for the pairs and for PSW. -/

namespace Sys2Proof.Machine

/-! ## The word at the top of the stack -/

theorem lo8_topWord (s : State) : lo8 (topWord s) = readByte s.sp s := lo8_readWord _ _

theorem hi8_topWord (s : State) : hi8 (topWord s) = readByte (s.sp + 1) s := hi8_readWord _ _

/-! ## PUSH and POP -/

theorem encode_push (p : Pair) : encode (instrOf (.push p)) = [byte224 0b11 (pairCode p) 0b0101] := by
  cases p <;> rfl

theorem encode_pop (p : Pair) : encode (instrOf (.pop p)) = [byte224 0b11 (pairCode p) 0b0001] := by
  cases p <;> rfl

/-- An instruction that pushes a word changes the stack and PC alone. -/
theorem pushes_of_exec_pushWord {i : Instr} {w : Word} {s : State} (h : exec i s = pushWord w s) :
    ∃ t, exec i s = .next t ∧ Pushed w s t ∧ t = { s with mem := t.mem, sp := t.sp, pc := s.pc + 1 } :=
  ⟨_, h, pushed_push w s, rfl⟩

/-- POP of a pair takes its low register from the byte at SP and its high register from the byte above. -/
theorem exec_pop (p : Pair) (s : State) :
    ∃ t, exec (instrOf (.pop p)) s = .next t ∧ getReg (pairLow p) t = readByte s.sp s ∧
      getReg (pairHigh p) t = readByte (s.sp + 1) s ∧
      (∀ r, r ≠ pairLow p → r ≠ pairHigh p → getReg r t = getReg r s) ∧
      t = { s with regs := t.regs, sp := s.sp + 2, pc := s.pc + 1 } := by
  refine ⟨_, exec_instrOf (.pop p) s, ?low, ?high, fun r hlow hhigh => ?other, rfl⟩
  case low => rw [getReg_advance, getReg_setPair, if_pos rfl, lo8_topWord]
  case high => rw [getReg_advance, getReg_setPair, if_neg (pairHigh_ne_pairLow p), if_pos rfl, hi8_topWord]
  case other => rw [getReg_advance, getReg_setPair, if_neg hlow, if_neg hhigh, getReg_dropWord]

/-- POP PSW takes the flags from the byte at SP, by the default layout, and A from the byte above. -/
theorem exec_popPSW (s : State) : exec .popPSW s = .next { s with
    regs := { s.regs with a := readByte (s.sp + 1) s },
    flags := flagsOfByte config.pswLayout (readByte s.sp s), sp := s.sp + 2, pc := s.pc + 1 } := by
  rw [← lo8_topWord, ← hi8_topWord]
  exact exec_eq_formMeaning .popPSW s

/-! ## A pop after a push -/

/-- A pop in the state after a PUSH reads the word pushed and takes SP back (R94, R95). -/
theorem pop_after_pushWord {w : Word} {s t : State} (h : pushWord w s = .next t) :
    topWord t = w ∧ dropWord t = { s with mem := t.mem, pc := s.pc + 1 } := by
  cases h
  refine ⟨(topWord_of_eq rfl rfl).trans (topWord_push w s), ?_⟩
  rw [dropWord, advance_sp, push_sp, BitVec.sub_add_cancel]
  rfl

/-- A pair written with its own value leaves the registers as they were. -/
theorem setPair_getPair_regs (p : Pair) {s t : State} (h : t.regs = s.regs) :
    (setPair p (getPair p s) t).regs = s.regs := by
  rw [setPair_regs, lo8_getPair, hi8_getPair, h]
  cases p <;> rfl

theorem popPair_after_push {p : Pair} {s t u : State} (hpush : pushWord (getPair p s) s = .next t)
    (hpop : popPair p t = .next u) : u.regs = s.regs ∧ u.flags = s.flags ∧ u.sp = s.sp := by
  obtain ⟨htop, hdrop⟩ := pop_after_pushWord hpush
  cases hpop
  rw [htop, hdrop]
  exact ⟨setPair_getPair_regs p rfl, rfl, rfl⟩

/-- In a well-formed layout the flags come back from the flags byte (R40), so POP PSW restores what PUSH PSW
pushed. -/
theorem popPsw_after_push {cfg : Config} (hl : cfg.pswLayout.wellFormed = true) {s t u : State}
    (hpush : pushWord (pswWord cfg s) s = .next t) (hpop : popPswWord cfg t = .next u) :
    u.regs = s.regs ∧ u.flags = s.flags ∧ u.sp = s.sp := by
  obtain ⟨htop, hdrop⟩ := pop_after_pushWord hpush
  cases hpop
  rw [htop, hdrop, pswWord, hi8_joinBytes, lo8_joinBytes, flagsOfByte_flagsByte hl]
  exact ⟨rfl, rfl, rfl⟩

/-! ## XTHL -/

/-- XTHL stores the word HL at SP and loads the word that stood there; the two addresses differ even where the second
wraps. -/
theorem exec_xthl (s : State) :
    ∃ t, exec .xthl s = .next t ∧ readByte s.sp t = s.regs.l ∧ readByte (s.sp + 1) t = s.regs.h ∧
      SameMemoryOutside [s.sp, s.sp + 1] s t ∧
      t = { s with
        regs := { s.regs with l := readByte s.sp s, h := readByte (s.sp + 1) s }, mem := t.mem, pc := s.pc + 1 } := by
  have hne : s.sp ≠ s.sp + 1 := by bv_omega
  refine ⟨_, exec_eq_formMeaning .xthl s, ?low, ?high,
    sameMemoryOutside_of_mem_eq (sameMemoryOutside_writeWord s.sp (getPair .hl s) s) rfl, ?frame⟩
  case low =>
    rw [readByte_advance, readByte_setPair, readByte_writeWord_at, if_neg hne, if_pos rfl, lo8_getPair]
    rfl
  case high =>
    rw [readByte_advance, readByte_setPair, readByte_writeWord_at, if_pos rfl, hi8_getPair]
    rfl
  case frame =>
    rw [← lo8_topWord, ← hi8_topWord]
    rfl

/-! ## The ports -/

/-- R98: the shift register, shifted right by 8 less the offset, low byte. -/
theorem shiftWindow_toNat (x : Latches) : (shiftWindow x).toNat =
    (x.shift1.toNat * 256 + x.shift0.toNat) / 2 ^ (8 - x.shiftOffset.toNat) % 256 := by
  rw [shiftWindow, lo8_toNat, BitVec.toNat_ushiftRight, joinBytes_toNat, Nat.shiftRight_eq_div_pow]

/-- R97: a port from 4 upward reads 0. -/
theorem portRead_of_four_le {p : Byte} (h : 4 ≤ p.toNat) (cfg : Config) (s : State) : portRead cfg p s = 0 := by
  unfold portRead
  split
  case h_5 => rfl
  all_goals omega

/-- R377: OUT to a recognised port is the port's write and the advance, with the events of the write. -/
theorem exec_outPort {p : Byte} {s t : State} {events : List PortEvent}
    (h : portWrite p s.regs.a s = some (t, events)) :
    exec (.outPort p) s = .next (advance 2 t) ∧ execEvents (.outPort p) s = events := by
  refine ⟨(exec_eq_formMeaning (.outPort p) s).trans ?state, ?events⟩
  case state => simp only [formOf, formMeaning, outToPort, h]
  case events => simp only [execEvents, formOf, formEvents, outEvents, h]

/-! ## The obligations -/

/-- Settles O23: the pop finds the word pushed, and each register and flag comes back from its byte. -/
theorem pushThenPopRestores : Obligations.PushThenPopRestores := by
  refine ⟨fun p s t u hpush hpop => ?pair, fun s t u hpush hpop => ?psw⟩
  case pair =>
    rw [exec_instrOf] at hpush hpop
    exact popPair_after_push hpush hpop
  case psw =>
    rw [exec_eq_formMeaning] at hpush hpop
    exact popPsw_after_push (cfg := config) (by decide) hpush hpop

/-- Settles O52: each of these rows pushes a word, a pair or PSW. -/
theorem pushes : Obligations.Pushes :=
  ⟨fun p s => ⟨encode_push p, pushes_of_exec_pushWord (exec_instrOf (.push p) s)⟩,
    fun s => ⟨rfl, pushes_of_exec_pushWord (exec_eq_formMeaning .pushPSW s)⟩⟩

/-- Settles O53: the default layout takes the five flags from the bits 7, 6, 4, 2 and 0. -/
theorem pops : Obligations.Pops := by
  refine ⟨fun p s => ⟨encode_pop p, exec_pop p s⟩, fun s f hf => ⟨rfl, ?psw⟩⟩
  case psw =>
    subst hf
    exact exec_popPSW s

/-- Settles O54: XTHL is a store and a load of HL, SPHL a load of SP. -/
theorem stackExchanges : Obligations.StackExchanges :=
  ⟨fun s => ⟨rfl, exec_xthl s⟩, fun s => ⟨rfl, exec_eq_formMeaning .sphl s⟩⟩

/-- Settles O55: IN is an 8-bit load of the port's value into A. -/
theorem inputPorts : Obligations.InputPorts := by
  intro p s
  obtain ⟨t, hexec, ht⟩ := loadsReg_of_exec (exec_eq_formMeaning (.inPort p) s)
  obtain ⟨hvalue, hother, hframe⟩ := ht
  have ha : t.regs.a = portRead config p s := hvalue
  refine ⟨rfl, t, hexec, ⟨rfl, hother, hframe⟩, ?port0, ?port1, ?port2, ?port3, fun hp => ?above⟩
  case port0 | port1 | port2 => rintro rfl; exact ha
  case port3 => rintro rfl; exact (congrArg BitVec.toNat ha).trans (shiftWindow_toNat s.latches)
  case above => exact ha.trans (portRead_of_four_le hp config s)

/-- Settles O56, port by port; the offset takes the low three bits of A. -/
theorem outputPorts : Obligations.OutputPorts := by
  refine ⟨fun p => rfl, fun s => ⟨?port2, ?port3, ?port4, ?port5, ?port6⟩⟩
  case port2 =>
    obtain ⟨hexec, hevents⟩ := exec_outPort (p := 2) (s := s) rfl
    exact ⟨⟨_, hexec, BitVec.extractLsb'_toNat .., rfl⟩, hevents⟩
  case port3 => exact (exec_outPort (p := 3) (s := s) rfl :)
  case port4 => exact (exec_outPort (p := 4) (s := s) rfl :)
  case port5 => exact (exec_outPort (p := 5) (s := s) rfl :)
  case port6 => exact (exec_outPort (p := 6) (s := s) rfl :)

/-- Settles O58: each of these rows writes one field beside PC, and NOP none. -/
theorem machineControl : Obligations.MachineControl :=
  ⟨⟨rfl, rfl, rfl, rfl⟩, fun s => ⟨exec_eq_formMeaning .ei s, exec_eq_formMeaning .di s, exec_eq_formMeaning .hlt s,
    exec_eq_formMeaning .nop s⟩⟩

end Sys2Proof.Machine
end

section
/-! PROOFS of the statements of 60_exceptions.md about one step: every instruction answers, which outcome a core step
has and what it leaves, and what the scheduler does around a step that goes on. The outcomes are told apart once, in
`coreStep_outcome_cases`; the step inside a half-frame is `stepWith_of_continue`. -/

namespace Sys2Proof.Machine

/-! ## OUT by its port -/

theorem portWrite_of_unrecognised {p : Byte} (hp : p.toNat ∉ [2, 3, 4, 5, 6]) (v : Byte) (s : State) :
    portWrite p v s = none := by
  rcases portWrite_cases p v s with ⟨h, -⟩ | ⟨h, -⟩ | ⟨h, -⟩ | ⟨h, -⟩ | ⟨h, -⟩ | ⟨-, h⟩
  case inr.inr.inr.inr.inr => exact h
  all_goals exact absurd (by simp [h]) hp

/-- R403: OUT to an unrecognised port changes the status alone. -/
theorem outToPort_of_unrecognised {p : Byte} (hp : p.toNat ∉ [2, 3, 4, 5, 6]) (v : Byte) (s : State) :
    outToPort p v s = .next (setStatus (.unimplementedPort p) s) := by
  rw [outToPort, portWrite_of_unrecognised hp]

theorem outEvents_of_unrecognised {p : Byte} (hp : p.toNat ∉ [2, 3, 4, 5, 6]) (v : Byte) (s : State) :
    outEvents p v s = [] := by
  rw [outEvents, portWrite_of_unrecognised hp]

/-- OUT to a recognised port keeps the status; to any other it ends the run. -/
theorem outToPort_cases {p v : Byte} {s t : State} (h : outToPort p v s = .next t) :
    (p.toNat ∈ [2, 3, 4, 5, 6] ∧ t.status = s.status) ∨
      (p.toNat ∉ [2, 3, 4, 5, 6] ∧ t = setStatus (.unimplementedPort p) s) := by
  by_cases hp : p.toNat ∈ [2, 3, 4, 5, 6]
  · refine .inl ⟨hp, ?_⟩
    unfold outToPort at h
    rcases portWrite_cases p v s with ⟨-, hw⟩ | ⟨-, hw⟩ | ⟨-, hw⟩ | ⟨-, hw⟩ | ⟨-, hw⟩ | ⟨hn, -⟩
    case inr.inr.inr.inr.inr => exact absurd hp hn
    all_goals
      rw [hw] at h
      cases h
      rfl
  · rw [outToPort_of_unrecognised hp] at h
    cases h
    exact .inr ⟨hp, rfl⟩

/-! ## Every instruction answers -/

theorem exists_callIf (len : Word) (taken : Bool) (target : Word) (s : State) :
    ∃ t, callIf len taken target s = .next t := by
  cases taken <;> exact ⟨_, rfl⟩

theorem exists_returnIf (taken : Bool) (s : State) : ∃ t, returnIf taken s = .next t := by
  cases taken <;> exact ⟨_, rfl⟩

theorem exists_outToPort (p v : Byte) (s : State) : ∃ t, outToPort p v s = .next t := by
  unfold outToPort
  split <;> exact ⟨_, rfl⟩

/-- R406: in any configuration every form answers a next state. -/
theorem exists_formMeaning (cfg : Config) (f : Form) (s : State) : ∃ t, formMeaning cfg f s = .next t := by
  cases f with
  | mvi o v => exact ⟨_, formMeaning_mvi cfg o v s⟩
  | jcc cond a => exact ⟨_, jumpIf_eq _ _ _ _⟩
  | ccc cond a => exact exists_callIf _ _ _ _
  | rcc cond => exact exists_returnIf _ _
  | outPort p => exact exists_outToPort _ _ _
  | _ => exact ⟨_, rfl⟩

theorem exists_exec (i : Instr) (s : State) : ∃ t, exec i s = .next t := by
  rw [exec_eq_formMeaning]
  exact exists_formMeaning config (formOf i) s

theorem exists_coreStep (cfg : Config) {s : State} (hs : s.status = .running) :
    ∃ out, coreStep cfg s = .next out := by
  cases hi : cfg.implemented (fetchOpcode s) with
  | true =>
    obtain ⟨t, ht⟩ := exists_formMeaning cfg (formOf (fetchInstr s)) s
    exact ⟨_, coreStep_of_execWith hs hi ht⟩
  | false => exact ⟨_, coreStep_of_unimplemented hs hi⟩

theorem exists_stepWith (cfg : Config) {s : State} (hs : s.status = .running) :
    ∃ t, stepWith cfg s = .next t := by
  obtain ⟨out, hout⟩ := exists_coreStep cfg (s := openStep cfg s) (by rwa [openStep_status])
  exact ⟨_, stepWith_of_next hout⟩

/-! ## The four outcomes of a core step -/

theorem formOf_fetchInstr_of_hlt {s : State} (h : fetchOpcode s = 0x76) : formOf (fetchInstr s) = .hlt := by
  rw [formOf_fetchInstr, h]
  rfl

theorem formOf_fetchInstr_of_out {s : State} (h : fetchOpcode s = 0xD3) :
    formOf (fetchInstr s) = .outPort (fetchFirst s) := by
  rw [formOf_fetchInstr, h]
  rfl

/-- R401: a core step that goes on reports the cost of its opcode. -/
theorem coreStep_cycles_of_running {cfg : Config} {s : State} {out : StepOutput} (h : coreStep cfg s = .next out)
    (hr : out.cpu.status = .running) : out.cycles = opCost cfg (fetchOpcode s) s.flags := by
  obtain ⟨-, ⟨-, -, hcycles, -⟩ | ⟨-, rfl⟩⟩ := coreStep_cases h
  · rw [hcycles, hr]
    rfl
  · cases hr

/-- In a well-formed configuration a row with a handler keeps the status, HLT and OUT apart. -/
theorem status_of_execWith {cfg : Config} (hwf : cfg.wellFormed = true) {s t : State}
    (hi : cfg.implemented (fetchOpcode s) = true) (hhlt : fetchOpcode s ≠ 0x76) (hout : fetchOpcode s ≠ 0xD3)
    (h : execWith cfg (fetchInstr s) s = .next t) : t.status = s.status := by
  obtain ⟨-, -, -, hst, -⟩ | ⟨-, on, rfl⟩ | ⟨hf, -⟩ | ⟨u, hf, -⟩ | ⟨p, hf, -⟩ := formMeaning_control_cases h
  · exact hst
  · rfl
  · exact absurd (fetchOpcode_of_form hf) hhlt
  · rw [fetchOpcode_of_form hf, opcodeOf_undocumented, Config.undocumented_not_implemented hwf] at hi
    cases hi
  · exact absurd (fetchOpcode_of_form hf) hout

/-- R400 to R404: the four outcomes of a core step, each with the byte at PC that gives it and what it leaves. A
well-formed configuration gives no handler to an undocumented byte, so no row other than HLT and OUT stops the run. -/
theorem coreStep_outcome_cases {cfg : Config} (hwf : cfg.wellFormed = true) {s : State} {out : StepOutput}
    (h : coreStep cfg s = .next out) :
    (cfg.implemented (fetchOpcode s) = true ∧ fetchOpcode s ≠ 0x76 ∧
      (fetchOpcode s = 0xD3 → (fetchFirst s).toNat ∈ [2, 3, 4, 5, 6]) ∧ out.cpu.status = .running) ∨
    (cfg.implemented 0x76 = true ∧ fetchOpcode s = 0x76 ∧
      out = { cpu := { s with pc := s.pc + 1, status := .halted }, cycles := cfg.cycles 0x76, events := [] }) ∨
    (cfg.implemented (fetchOpcode s) = false ∧
      out = { cpu := { s with status := .unimplemented (fetchOpcode s) }, cycles := 0, events := [] }) ∨
    (cfg.implemented 0xD3 = true ∧ fetchOpcode s = 0xD3 ∧ (fetchFirst s).toNat ∉ [2, 3, 4, 5, 6] ∧
      out = { cpu := { s with status := .unimplementedPort (fetchFirst s) }, cycles := 0, events := [] }) := by
  obtain ⟨hs, ⟨hi, hex, hcycles, hevents⟩ | ⟨hi, rfl⟩⟩ := coreStep_cases h
  case inr => exact .inr (.inr (.inl ⟨hi, rfl⟩))
  obtain ⟨t, cycles, events⟩ := out
  dsimp only at hex hcycles hevents
  subst hcycles hevents
  by_cases hhlt : fetchOpcode s = 0x76
  · have hf := formOf_fetchInstr_of_hlt hhlt
    rw [execWith, hf] at hex
    cases hex
    rw [hhlt] at hi
    exact .inr (.inl ⟨hi, hhlt, by rw [execEvents, hf, hhlt]; rfl⟩)
  by_cases hout : fetchOpcode s = 0xD3
  · have hf := formOf_fetchInstr_of_out hout
    rw [execWith, hf] at hex
    obtain ⟨hp, hst⟩ | ⟨hp, rfl⟩ := outToPort_cases hex
    · exact .inl ⟨hi, hhlt, fun _ => hp, hst.trans hs⟩
    · rw [hout] at hi
      exact .inr (.inr (.inr ⟨hi, hout, hp, by rw [execEvents, hf, formEvents, outEvents_of_unrecognised hp]; rfl⟩))
  exact .inl ⟨hi, hhlt, fun h => absurd h hout, (status_of_execWith hwf hi hhlt hout hex).trans hs⟩

/-! ## The scheduler around a core step -/

/-- A step depends on the state that the scheduler opens. -/
theorem stepWith_congr {cfg : Config} {s t : State} (h : openStep cfg s = openStep cfg t) :
    stepWith cfg s = stepWith cfg t := by
  rw [stepWith, stepWith, stepOutput, stepOutput, h]

theorem openStep_of_le {cfg : Config} {s : State} (h : cfg.halfFrameCycles ≤ s.cycleCount) :
    openStep cfg s = { s with cycleCount := 0 } := if_pos h

/-- The count at 0 is opened to itself, even with a budget of 0. -/
theorem openStep_zero (cfg : Config) (s : State) :
    openStep cfg { s with cycleCount := 0 } = { s with cycleCount := 0 } := by
  rw [openStep_eq]
  split <;> rfl

theorem stepWith_of_terminal (cfg : Config) {s : State} (h : s.status ≠ .running) :
    stepWith cfg s = .fault (.runEnded s.status) := by
  rw [stepWith, stepOutput, coreStep_of_terminal cfg (by rwa [openStep_status]), openStep_status]

/-- R402: the step of a byte without a handler, in the state that the scheduler opens. -/
theorem stepWith_of_unimplemented {cfg : Config} {s : State} (hs : s.status = .running)
    (hi : cfg.implemented (fetchOpcode s) = false) :
    stepWith cfg s = .next (setStatus (.unimplemented (fetchOpcode s)) (openStep cfg s)) := by
  have hcore := coreStep_of_unimplemented (cfg := cfg) (s := openStep cfg s) (by simpa) (by simpa)
  rw [stepWith_of_next hcore, closeStep_of_terminal cfg _ (by simp), fetchOpcode_openStep]

theorem countCycles_of_lt {cfg : Config} {cost : Nat} {s : State} (h : s.cycleCount + cost < cfg.halfFrameCycles) :
    countCycles cfg cost s = { s with cycleCount := s.cycleCount + cost } := if_neg (by omega)

theorem countCycles_of_le {cfg : Config} {cost : Nat} {s : State} (h : cfg.halfFrameCycles ≤ s.cycleCount + cost) :
    countCycles cfg cost s = halfFrameBoundary { s with cycleCount := s.cycleCount + cost } := if_pos h

/-- R418: a step that goes on, inside a half-frame, is the core's step and the count of its cost. -/
theorem stepWith_of_continue {cfg : Config} {s : State} {out : StepOutput} (hlt : s.cycleCount < cfg.halfFrameCycles)
    (h : coreStep cfg s = .next out) (hr : out.cpu.status = .running) :
    stepWith cfg s = .next (countCycles cfg (opCost cfg (fetchOpcode s) s.flags) out.cpu) := by
  rw [← openStep_of_lt hlt] at h
  rw [stepWith_of_next h, closeStep_of_running _ _ hr, coreStep_cycles_of_running h hr, openStep_of_lt hlt]

/-- R416: at the budget the step that goes on ends in the boundary, at the count of the sum. -/
theorem stepWith_of_boundary {cfg : Config} {s : State} {out : StepOutput} (hlt : s.cycleCount < cfg.halfFrameCycles)
    (h : coreStep cfg s = .next out) (hr : out.cpu.status = .running)
    (hle : cfg.halfFrameCycles ≤ s.cycleCount + opCost cfg (fetchOpcode s) s.flags) :
    stepWith cfg s = .next (halfFrameBoundary
      { out.cpu with cycleCount := s.cycleCount + opCost cfg (fetchOpcode s) s.flags }) := by
  rw [← coreStep_cycleCount h] at hle ⊢
  rw [stepWith_of_continue hlt h hr, countCycles_of_le hle]

theorem halfFrameBoundary_of_inte {s : State} (h : s.inte = true) :
    halfFrameBoundary s = { takeInterrupt (phaseVector s.phase) s with phase := otherPhase s.phase } := if_pos h

theorem halfFrameBoundary_of_not_inte {s : State} (h : s.inte = false) :
    halfFrameBoundary s = { s with phase := otherPhase s.phase } := by
  rw [halfFrameBoundary, h]
  rfl

/-! ## The host's writes -/

theorem betweenHalfFrames_iff (cfg : Config) (s : State) : betweenHalfFrames cfg s = true ↔
    s.status ≠ .running ∨ s.cycleCount = 0 ∨ cfg.halfFrameCycles ≤ s.cycleCount := by
  simp [betweenHalfFrames, or_assoc]

theorem hostWrite_of_between {cfg : Config} {s : State} (h : betweenHalfFrames cfg s = true) (act : HostAction) :
    hostWrite cfg act s = .next { s with latches := hostLatches act s.latches } := if_pos h

theorem hostWrite_of_not_between {cfg : Config} {s : State} (h : ¬ betweenHalfFrames cfg s = true)
    (act : HostAction) : hostWrite cfg act s = .refused .hostDuringHalfFrame := if_neg h

/-! ## The obligations -/

/-- Settles O7: the core's step of a byte without a handler, and the 12 rows' meaning. -/
theorem undocumentedByteStopsTheRun : Obligations.UndocumentedByteStopsTheRun := by
  refine ⟨fun cfg s hs hi => ⟨coreStep_of_unimplemented hs hi, stepWith_of_unimplemented hs hi⟩,
    fun s hs hop => stepWith_of_unimplemented hs ((implemented_eq_false_iff _).2 hop), fun u s => ?row⟩
  case row =>
    rw [exec_instrOf, opcodeOf_undocumented]
    rfl

/-- Settles O8: the scheduler leaves the state of a terminal outcome alone. -/
theorem terminalOutcomesAreFinal : Obligations.TerminalOutcomesAreFinal := by
  refine ⟨fun s hs => ⟨stepWith_of_terminal config hs,
    fun cfg => ⟨stepWith_of_terminal cfg hs, coreStep_of_terminal cfg hs⟩⟩, fun cfg s out hlt h ht => ?reached⟩
  case reached =>
    rw [← openStep_of_lt hlt] at h
    rw [stepWith_of_next h, closeStep_of_terminal _ _ ht]

/-- Settles O9: every form answers, and so does the step of the form at PC. -/
theorem noInstructionTraps : Obligations.NoInstructionTraps :=
  ⟨exists_exec, fun _ hs => exists_stepWith config hs, fun cfg i s => exists_formMeaning cfg (formOf i) s,
    fun cfg _ hs => exists_stepWith cfg hs⟩

/-- Settles O10: the four outcomes exclude each other by the byte at PC, its handler and the port after it. -/
theorem stepOutcomes : Obligations.StepOutcomes := by
  intro cfg s out hwf h
  have hcost : out.cpu.status = .running → out.cycles = opCost cfg (readByte s.pc s) s.flags :=
    coreStep_cycles_of_running h
  have hcases := coreStep_outcome_cases hwf h
  simp only [fetchOpcode, fetchFirst] at hcases
  obtain ⟨hi, hop, hport, hr⟩ | ⟨hi, hop, rfl⟩ | ⟨hi, rfl⟩ | ⟨hi, hop, hport, rfl⟩ := hcases
  all_goals grind

/-- Settles O11: the core step counts nothing itself, and a spent count is opened to 0. -/
theorem cyclesAreCounted : Obligations.CyclesAreCounted := by
  refine ⟨fun cfg s out h hr hlt => ?inside, fun cfg s hle => ?opened⟩
  case inside =>
    have hcount := coreStep_cycleCount h
    have hstep := stepWith_of_continue (cfg := cfg) (by omega) h hr
    rw [countCycles_of_lt (by rw [hcount]; exact hlt), hcount] at hstep
    exact hstep
  case opened =>
    exact stepWith_congr (by rw [openStep_of_le hle, openStep_zero])

/-- Settles O12: the boundary is the interrupt entry, whose push is of the PC that the step leaves. -/
theorem boundaryEntersInterrupt : Obligations.BoundaryEntersInterrupt := by
  rintro cfg s out t hlt h rfl hr hle hinte
  have hstep := stepWith_of_boundary hlt h hr hle
  rw [halfFrameBoundary_of_inte (by exact hinte)] at hstep
  refine ⟨_, hstep, pushed_push out.cpu.pc out.cpu, ?_⟩
  cases hp : out.cpu.phase <;> rfl

/-- Settles O13: the boundary without INTE is the phase's toggle alone. -/
theorem boundaryDropsRequest : Obligations.BoundaryDropsRequest := by
  rintro cfg s out t hlt h rfl hr hle hinte
  have hstep := stepWith_of_boundary hlt h hr hle
  rw [halfFrameBoundary_of_not_inte (by exact hinte)] at hstep
  exact hstep

/-- Settles O60: the two premises are the host's gap between half-frames in this machine and its complement. -/
theorem hostWritesBetweenHalfFramesOnly : Obligations.HostWritesBetweenHalfFramesOnly := by
  refine ⟨fun s hs => ?between, fun act s hr hpos hlt => ?inside⟩
  case between =>
    have hb := hostWrite_of_between ((betweenHalfFrames_iff config s).2 hs)
    exact ⟨fun in1 in2 => hb (.writeInputs in1 in2), hb .clearOut3, hb .clearOut5⟩
  case inside =>
    have hlt' : s.cycleCount < config.halfFrameCycles := hlt
    refine hostWrite_of_not_between (fun hb => ?_) act
    obtain h | h | h := (betweenHalfFrames_iff config s).1 hb
    · exact h hr
    · omega
    · omega

/-- Settles O57: the port's write is none of the recognised ones. -/
theorem unrecognisedPortStopsTheRun : Obligations.UnrecognisedPortStopsTheRun := fun p s hp =>
  ⟨(exec_eq_formMeaning (.outPort p) s).trans (outToPort_of_unrecognised hp s.regs.a s),
    outEvents_of_unrecognised hp s.regs.a s⟩

end Sys2Proof.Machine
end

section
/-! PROOFS of the statements of 60_exceptions.md about the half-frame and the frame. The induction over the loop of
R416 is done once for what every step keeps (`runUntilBoundary_induction`) and once for its end
(`runUntilBoundary_finishes`). -/

namespace Sys2Proof.Machine

/-! ## What a step inside a half-frame leaves -/

theorem closeStep_status (cfg : Config) (cost : Nat) (s : State) : (closeStep cfg cost s).status = s.status := by
  unfold closeStep
  split
  · exact countCycles_status cfg cost s
  · rfl

theorem closeStep_cycleCount_of_running (cfg : Config) (cost : Nat) {s : State} (h : s.status = .running) :
    (closeStep cfg cost s).cycleCount = s.cycleCount + cost := by
  rw [closeStep_of_running _ _ h, countCycles_cycleCount]

theorem halfFrameBoundary_phase (s : State) : (halfFrameBoundary s).phase = otherPhase s.phase := by
  unfold halfFrameBoundary
  split <;> rfl

theorem countCycles_phase (cfg : Config) (cost : Nat) (s : State) : (countCycles cfg cost s).phase =
    if cfg.halfFrameCycles ≤ s.cycleCount + cost then otherPhase s.phase else s.phase := by
  unfold countCycles
  split
  · exact halfFrameBoundary_phase _
  · rfl

/-- No form writes the phase. -/
theorem formMeaning_phase {cfg : Config} {f : Form} {s t : State} (h : formMeaning cfg f s = .next t) :
    t.phase = s.phase := by
  obtain ⟨-, -, -, -, -, hphase⟩ | ⟨-, on, rfl⟩ | ⟨-, rfl⟩ | ⟨u, -, rfl⟩ | ⟨p, -, hout⟩ :=
    formMeaning_control_cases h
  · exact hphase
  · rfl
  · rfl
  · rfl
  · obtain ⟨x, st, pc, -, -, rfl⟩ := outToPort_frame hout
    rfl

theorem coreStep_phase {cfg : Config} {s : State} {out : StepOutput} (h : coreStep cfg s = .next out) :
    out.cpu.phase = s.phase := by
  obtain ⟨-, ⟨-, hex, -, -⟩ | ⟨-, rfl⟩⟩ := coreStep_cases h
  · exact formMeaning_phase hex
  · rfl

/-- R105: a core step emits no event, or one event of port 3 or 5 by an OUT that goes on. -/
theorem coreStep_events_cases {cfg : Config} {s : State} {out : StepOutput} (h : coreStep cfg s = .next out) :
    out.events = [] ∨ ∃ e, out.events = [e] ∧ (e.port = 3 ∨ e.port = 5) ∧ fetchOpcode s = 0xD3 ∧
      out.cpu.status = .running := by
  obtain ⟨hs, ⟨-, hex, -, hevents⟩ | ⟨-, rfl⟩⟩ := coreStep_cases h
  case inr => exact .inl rfl
  rw [hevents, execEvents]
  obtain ⟨hnone, -⟩ | ⟨hf | hf, -⟩ | ⟨hf, -⟩ | ⟨u, hf, -⟩ | ⟨p, hf, hout⟩ := formMeaning_control_cases hex
  · exact .inl hnone
  · exact .inl (by rw [hf]; rfl)
  · exact .inl (by rw [hf]; rfl)
  · exact .inl (by rw [hf]; rfl)
  · exact .inl (by rw [hf]; rfl)
  · rw [hf, formEvents]
    obtain ⟨-, hst⟩ | ⟨hp, -⟩ := outToPort_cases hout
    · rw [outEvents_eq]
      split_ifs with hport
      · exact .inr ⟨_, rfl, hport, fetchOpcode_of_form hf, hst.trans hs⟩
      · exact .inl rfl
    · exact .inl (outEvents_of_unrecognised hp _ _)

/-- In this machine an event takes the 10 cycles of its OUT. -/
theorem coreStep_events_cost {s : State} {out : StepOutput} (h : coreStep config s = .next out) :
    out.events = [] ∨ (out.cpu.status = .running ∧ out.events.length = 1 ∧ out.cycles = 10) := by
  obtain hnone | ⟨e, he, -, hop, hr⟩ := coreStep_events_cases h
  · exact .inl hnone
  · refine .inr ⟨hr, by rw [he]; rfl, ?_⟩
    rw [coreStep_cycles_of_running h hr, hop]
    rfl

theorem cycles_le_opCost (cfg : Config) (op : Byte) (f : Flags) : cfg.cycles op ≤ opCost cfg op f := by
  unfold opCost
  split
  · split_ifs <;> omega
  · exact le_rfl

/-- In a well-formed configuration every step that goes on costs a cycle. -/
theorem coreStep_cycles_pos {cfg : Config} (hwf : cfg.wellFormed = true) {s : State} {out : StepOutput}
    (h : coreStep cfg s = .next out) (hr : out.cpu.status = .running) : 0 < out.cycles := by
  rw [coreStep_cycles_of_running h hr]
  obtain ⟨-, ⟨hi, -, -, -⟩ | ⟨-, rfl⟩⟩ := coreStep_cases h
  · exact (Config.cycles_pos hwf hi).trans_le (cycles_le_opCost cfg _ _)
  · cases hr

/-- Inside a half-frame a step is a core step and what closes it. -/
theorem exists_coreStep_of_inHalfFrame {cfg : Config} {s : State} (hs : inHalfFrame cfg s = true) :
    ∃ out, coreStep cfg s = .next out ∧
      stepOutput cfg s = .next { out with cpu := closeStep cfg out.cycles out.cpu } := by
  obtain ⟨hr, hlt⟩ := (inHalfFrame_iff cfg s).1 hs
  obtain ⟨out, hout⟩ := exists_coreStep cfg hr
  exact ⟨out, hout, stepOutput_of_next (by rwa [openStep_of_lt hlt])⟩

/-! ## The loop -/

theorem not_inHalfFrame_iff (cfg : Config) (s : State) :
    inHalfFrame cfg s = false ↔ s.status ≠ .running ∨ cfg.halfFrameCycles ≤ s.cycleCount := by
  rw [← Bool.not_eq_true, inHalfFrame_iff, not_and_or, not_lt]

/-- What every step inside a half-frame keeps, of the events so far and the state, holds of the loop's answer, and the
loop always answers. -/
theorem runUntilBoundary_induction {cfg : Config} {P : List PortEvent → State → Prop}
    (hstep : ∀ events s out, inHalfFrame cfg s = true → P events s → coreStep cfg s = .next out →
      P (events ++ out.events) (closeStep cfg out.cycles out.cpu))
    (fuel : Nat) {events : List PortEvent} {s : State} (hs : inHalfFrame cfg s = true) (hP : P events s) :
    ∃ out, runUntilBoundary cfg fuel events s = .next out ∧ P out.events out.cpu := by
  induction fuel generalizing events s with
  | zero => exact ⟨_, rfl, hP⟩
  | succ fuel ih =>
    obtain ⟨out, hcore, hout⟩ := exists_coreStep_of_inHalfFrame hs
    have hnext := hstep events s out hs hP hcore
    rw [runUntilBoundary_succ fuel events hout]
    split_ifs with hin
    · exact ih hin hnext
    · exact ⟨_, rfl, hnext⟩

/-- In a well-formed configuration the loop ends within as many steps as cycles are left of the budget, since each of
them spends one. -/
theorem runUntilBoundary_finishes {cfg : Config} (hwf : cfg.wellFormed = true) {fuel : Nat} {events : List PortEvent}
    {s : State} (hs : inHalfFrame cfg s = true) (hfuel : cfg.halfFrameCycles ≤ s.cycleCount + fuel) :
    ∃ out, runUntilBoundary cfg fuel events s = .next out ∧ inHalfFrame cfg out.cpu = false := by
  induction fuel generalizing events s with
  | zero =>
    obtain ⟨-, hlt⟩ := (inHalfFrame_iff cfg s).1 hs
    omega
  | succ fuel ih =>
    obtain ⟨out, hcore, hout⟩ := exists_coreStep_of_inHalfFrame hs
    rw [runUntilBoundary_succ fuel events hout]
    split_ifs with hin
    · obtain ⟨hr, -⟩ := (inHalfFrame_iff cfg _).1 hin
      rw [closeStep_status] at hr
      refine ih hin ?_
      have hpos := coreStep_cycles_pos hwf hcore hr
      rw [closeStep_cycleCount_of_running _ _ hr, coreStep_cycleCount hcore]
      omega
    · exact ⟨_, rfl, by simpa using hin⟩

/-! ## The half-frame -/

/-- A half-frame that answers ran from a `Running` state: the boundary alone for a budget of 0, else the loop. -/
theorem runHalfFrameFor_cases {cfg : Config} {bound : Nat} {s : State} {out : HalfFrameOutput}
    (h : runHalfFrameFor cfg bound s = .next out) : s.status = .running ∧
      ((cfg.halfFrameCycles = 0 ∧ out = { cpu := halfFrameBoundary (beginHalfFrame s), events := [] }) ∨
        (inHalfFrame cfg (beginHalfFrame s) = true ∧
          runUntilBoundary cfg bound [] (beginHalfFrame s) = .next out)) := by
  by_cases hs : s.status = .running
  case neg =>
    rw [runHalfFrameFor_of_terminal cfg bound hs] at h
    cases h
  refine ⟨hs, ?_⟩
  by_cases hb : cfg.halfFrameCycles = 0
  · rw [runHalfFrameFor_of_empty bound hs hb] at h
    cases h
    exact .inl ⟨hb, rfl⟩
  · rw [runHalfFrameFor_of_budget bound hs hb] at h
    exact .inr ⟨inHalfFrame_beginHalfFrame hs hb, h⟩

/-- From a `Running` state a half-frame answers what the boundary alone gives, for a budget of 0, and what every step
keeps. -/
theorem runHalfFrameFor_induction {cfg : Config} {P : List PortEvent → State → Prop} {s : State}
    (hs : s.status = .running) (hempty : cfg.halfFrameCycles = 0 → P [] (halfFrameBoundary (beginHalfFrame s)))
    (hbegin : cfg.halfFrameCycles ≠ 0 → P [] (beginHalfFrame s))
    (hstep : ∀ events t out, inHalfFrame cfg t = true → P events t → coreStep cfg t = .next out →
      P (events ++ out.events) (closeStep cfg out.cycles out.cpu)) (bound : Nat) :
    ∃ out, runHalfFrameFor cfg bound s = .next out ∧ P out.events out.cpu := by
  by_cases hb : cfg.halfFrameCycles = 0
  · rw [runHalfFrameFor_of_empty bound hs hb]
    exact ⟨_, rfl, hempty hb⟩
  · rw [runHalfFrameFor_of_budget bound hs hb]
    exact runUntilBoundary_induction hstep bound (inHalfFrame_beginHalfFrame hs hb) (hbegin hb)

/-- R105, R425: the events of a half-frame are of port 3 and port 5. -/
theorem runHalfFrameFor_events (cfg : Config) (bound : Nat) {s : State} (hs : s.status = .running) :
    ∃ out, runHalfFrameFor cfg bound s = .next out ∧ ∀ e ∈ out.events, e.port = 3 ∨ e.port = 5 := by
  refine runHalfFrameFor_induction (P := fun events _ => ∀ e ∈ events, e.port = 3 ∨ e.port = 5) hs
    (by simp) (by simp) (fun events t out _ hP hcore => ?_) bound
  obtain hnone | ⟨e, he, hport, -, -⟩ := coreStep_events_cases hcore
  · simpa [hnone] using hP
  · rw [he]
    exact List.forall_mem_append.2 ⟨hP, List.forall_mem_singleton.2 hport⟩

/-- What the scheduler has counted for the events so far, and how far the count can be, in this machine (R417). -/
def SpendsByEvents (events : List PortEvent) (s : State) : Prop :=
  10 * events.length ≤ s.cycleCount ∧ s.cycleCount ≤ 16667 + 17

theorem spendsByEvents_closeStep {events : List PortEvent} {s : State} {out : StepOutput}
    (hs : inHalfFrame config s = true) (hP : SpendsByEvents events s) (hcore : coreStep config s = .next out) :
    SpendsByEvents (events ++ out.events) (closeStep config out.cycles out.cpu) := by
  obtain ⟨hspent, -⟩ := hP
  have hlt : s.cycleCount < 16667 := ((inHalfFrame_iff config s).1 hs).2
  have hcount := coreStep_cycleCount hcore
  have hevents := coreStep_events_cost hcore
  rw [SpendsByEvents, List.length_append]
  by_cases hr : out.cpu.status = .running
  · have hcost := coreStep_cycles_le hcore hr
    rw [closeStep_cycleCount_of_running _ _ hr, hcount]
    obtain hnone | ⟨-, hone, hten⟩ := hevents
    · rw [hnone, List.length_nil]
      omega
    · omega
  · rw [closeStep_of_terminal _ _ hr, hcount]
    obtain hnone | ⟨hr', -⟩ := hevents
    · rw [hnone, List.length_nil]
      omega
    · exact absurd hr' hr

/-- R417: the bound on the count, and the 10 cycles of each event, at the end of a half-frame of this machine. -/
theorem runHalfFrame_spendsByEvents {s : State} (hs : s.status = .running) :
    ∃ out, runHalfFrame config s = .next out ∧ SpendsByEvents out.events out.cpu := by
  have hbudget : config.halfFrameCycles ≠ 0 := by decide
  exact runHalfFrameFor_induction hs (fun h => absurd h hbudget) (fun _ => ⟨Nat.zero_le _, Nat.zero_le _⟩)
    (fun _ _ _ => spendsByEvents_closeStep) _

/-- In a well-formed configuration a half-frame from a `Running` state ends. -/
theorem exists_runHalfFrame_finished {cfg : Config} (hwf : cfg.wellFormed = true) {s : State}
    (hs : s.status = .running) :
    ∃ out, runHalfFrame cfg s = .next out ∧ inHalfFrame cfg out.cpu = false := by
  have hb : cfg.halfFrameCycles ≠ 0 := (Config.halfFrame_pos hwf).ne'
  rw [runHalfFrame, runHalfFrameFor_of_budget _ hs hb]
  exact runUntilBoundary_finishes hwf (inHalfFrame_beginHalfFrame hs hb) (by simp)

/-- A half-frame that is finished answers the same with any greater bound. -/
theorem runHalfFrameFor_of_finished {cfg : Config} {n m : Nat} {s : State} {out : HalfFrameOutput}
    (h : runHalfFrameFor cfg n s = .next out) (hf : inHalfFrame cfg out.cpu = false) (hnm : n ≤ m) :
    runHalfFrameFor cfg m s = .next out := by
  obtain ⟨hs, ⟨hb, rfl⟩ | ⟨hin, hloop⟩⟩ := runHalfFrameFor_cases h
  · exact runHalfFrameFor_of_empty m hs hb
  · have hb : cfg.halfFrameCycles ≠ 0 := Nat.ne_zero_of_lt ((inHalfFrame_iff cfg _).1 hin).2
    rw [runHalfFrameFor_of_budget m hs hb]
    exact runUntilBoundary_of_finished hin hloop hf hnm

/-- R416: what a half-frame returns is one output, whatever the number of its steps. -/
theorem halfFrameReturns_unique {cfg : Config} {s : State} {out out' : HalfFrameOutput}
    (h : HalfFrameReturns cfg s out) (h' : HalfFrameReturns cfg s out') : out = out' := by
  obtain ⟨n, hn, hf⟩ := h
  obtain ⟨m, hm, hf'⟩ := h'
  have hsame := (runHalfFrameFor_of_finished hn hf (le_max_left n m)).symm.trans
    (runHalfFrameFor_of_finished hm hf' (le_max_right n m))
  exact Host.Outcome.next.inj hsame

/-! ## The phase -/

/-- The phase of a half-frame's state: the other one once the budget is spent, the one it started in until then and
after a terminal outcome (R405, R419). -/
def PhaseByBudget (cfg : Config) (start : Phase) (s : State) : Prop :=
  s.phase = if s.status = .running ∧ cfg.halfFrameCycles ≤ s.cycleCount then otherPhase start else start

theorem phaseByBudget_closeStep {cfg : Config} {start : Phase} {s : State} {out : StepOutput}
    (hs : inHalfFrame cfg s = true) (hP : PhaseByBudget cfg start s) (hcore : coreStep cfg s = .next out) :
    PhaseByBudget cfg start (closeStep cfg out.cycles out.cpu) := by
  obtain ⟨-, hlt⟩ := (inHalfFrame_iff cfg s).1 hs
  rw [PhaseByBudget, if_neg (by omega)] at hP
  have hphase : out.cpu.phase = start := (coreStep_phase hcore).trans hP
  by_cases hr : out.cpu.status = .running
  · rw [closeStep_of_running _ _ hr, PhaseByBudget, countCycles_phase, countCycles_status, countCycles_cycleCount,
      hphase]
    simp [hr]
  · rw [closeStep_of_terminal _ _ hr, PhaseByBudget, hphase, if_neg fun h => hr h.1]

/-- R419: a half-frame, unfinished or not, is in the phase that its budget says. -/
theorem runHalfFrameFor_phase {cfg : Config} {bound : Nat} {s : State} {out : HalfFrameOutput}
    (h : runHalfFrameFor cfg bound s = .next out) : PhaseByBudget cfg s.phase out.cpu := by
  obtain ⟨hs, -⟩ := runHalfFrameFor_cases h
  have hempty (hb : cfg.halfFrameCycles = 0) : PhaseByBudget cfg s.phase (halfFrameBoundary (beginHalfFrame s)) := by
    obtain ⟨-, -, -, -, hst⟩ := halfFrameBoundary_keeps (beginHalfFrame s)
    rw [PhaseByBudget, halfFrameBoundary_phase, hst, if_pos ⟨hs, hb ▸ Nat.zero_le _⟩, beginHalfFrame_phase]
  have hbegin (hb : cfg.halfFrameCycles ≠ 0) : PhaseByBudget cfg s.phase (beginHalfFrame s) := by
    rw [PhaseByBudget, beginHalfFrame_cycleCount, if_neg (by omega), beginHalfFrame_phase]
  obtain ⟨out', h', hP⟩ := runHalfFrameFor_induction (P := fun _ => PhaseByBudget cfg s.phase) hs hempty hbegin
    (fun _ _ _ => phaseByBudget_closeStep) bound
  obtain rfl := Host.Outcome.next.inj (h.symm.trans h')
  exact hP

/-- R419: a finished half-frame has toggled the phase exactly when the status is still `Running`. -/
theorem phase_of_finished {cfg : Config} {bound : Nat} {s : State} {out : HalfFrameOutput}
    (h : runHalfFrameFor cfg bound s = .next out) (hf : inHalfFrame cfg out.cpu = false) :
    out.cpu.phase = if out.cpu.status = .running then otherPhase s.phase else s.phase := by
  have hP := runHalfFrameFor_phase h
  rw [PhaseByBudget] at hP
  obtain ht | hb := (not_inHalfFrame_iff cfg _).1 hf
  · rw [hP, if_neg fun h => ht h.1, if_neg ht]
  · simpa [hb] using hP

/-- R419: two half-frames end in the phase the first began in. -/
theorem otherPhase_otherPhase (p : Phase) : otherPhase (otherPhase p) = p := by
  cases p <;> rfl

/-! ## The frame -/

theorem runFrameFor_of_terminal {cfg : Config} {bound : Nat} {s : State} {out : HalfFrameOutput}
    (h : runHalfFrameFor cfg bound s = .next out) (ht : out.cpu.status ≠ .running) :
    runFrameFor cfg bound s = .next out := by
  simp [runFrameFor, h, ht]

theorem runFrameFor_of_second {cfg : Config} {bound : Nat} {s : State} {out second : HalfFrameOutput}
    (h : runHalfFrameFor cfg bound s = .next out) (hr : out.cpu.status = .running)
    (hb : cfg.halfFrameCycles ≤ out.cpu.cycleCount) (h2 : runHalfFrameFor cfg bound out.cpu = .next second) :
    runFrameFor cfg bound s = .next { cpu := second.cpu, events := out.events ++ second.events } := by
  simp [runFrameFor, h, hr, hb, h2]

/-- R420: in a well-formed configuration a frame ends, with a terminal status or with two half-frames spent. -/
theorem exists_runFrame_finished {cfg : Config} (hwf : cfg.wellFormed = true) {s : State} (hs : s.status = .running) :
    ∃ out, runFrame cfg s = .next out ∧ (out.cpu.status ≠ .running ∨
      (out.cpu.phase = s.phase ∧ cfg.halfFrameCycles ≤ out.cpu.cycleCount)) := by
  obtain ⟨first, h1, hf1⟩ := exists_runHalfFrame_finished hwf hs
  obtain ht | hb1 := (not_inHalfFrame_iff cfg _).1 hf1
  case inl => exact ⟨first, runFrameFor_of_terminal h1 ht, .inl ht⟩
  by_cases hr1 : first.cpu.status = .running
  case neg => exact ⟨first, runFrameFor_of_terminal h1 hr1, .inl hr1⟩
  obtain ⟨second, h2, hf2⟩ := exists_runHalfFrame_finished hwf hr1
  refine ⟨_, runFrameFor_of_second h1 hr1 hb1 h2, ?_⟩
  by_cases hr2 : second.cpu.status = .running
  case neg => exact .inl hr2
  obtain ht | hb2 := (not_inHalfFrame_iff cfg _).1 hf2
  case inl => exact absurd hr2 ht
  refine .inr ⟨?_, hb2⟩
  calc second.cpu.phase = otherPhase first.cpu.phase := by rw [phase_of_finished h2 hf2, if_pos hr2]
    _ = otherPhase (otherPhase s.phase) := by rw [phase_of_finished h1 hf1, if_pos hr1]
    _ = s.phase := otherPhase_otherPhase _

/-! ## The obligations -/

/-- Settles O14: what a step keeps holds of the loop's answer, and every step that goes on spends a cycle of the
budget. -/
theorem halfFrameSpendsItsBudget : Obligations.HalfFrameSpendsItsBudget := by
  refine ⟨fun cfg bound s hs => runHalfFrameFor_events cfg bound hs, fun _ _ _ _ => halfFrameReturns_unique,
    fun cfg s hs hb => runHalfFrameFor_of_empty _ hs hb, fun cfg s hwf hs => ?ends, fun s hs => ?spends⟩
  case ends =>
    obtain ⟨out, hout, hf⟩ := exists_runHalfFrame_finished hwf hs
    exact ⟨out, hout, ⟨_, hout, hf⟩, (not_inHalfFrame_iff cfg _).1 hf⟩
  case spends =>
    obtain ⟨out, hout, hevents, hle⟩ := runHalfFrame_spendsByEvents hs
    obtain ⟨out', hout', hf⟩ := exists_runHalfFrame_finished (cfg := config) (by decide) hs
    obtain rfl := Host.Outcome.next.inj (hout.symm.trans hout')
    exact ⟨out, hout, ((not_inHalfFrame_iff config _).1 hf).imp_right fun hb => ⟨hb, hle⟩, hevents⟩

/-- Settles O15: a finished half-frame toggles the phase unless it ended in a terminal status, and a frame is two of
them. -/
theorem phaseAlternatesByHalfFrame : Obligations.PhaseAlternatesByHalfFrame := by
  exact ⟨fun cfg s out ⟨_, h, hf⟩ => phase_of_finished h hf,
    fun cfg bound s out h => ⟨runFrameFor_of_terminal h, fun second => runFrameFor_of_second h⟩,
    fun _ _ hwf => exists_runFrame_finished hwf⟩

end Sys2Proof.Machine
end

section
/-! PROOFS of the statements of 70_reset_and_hazards.md: the state that a reset answers, the invariant along every run,
and the cost of every row. -/

namespace Sys2Proof.Machine

/-! ## Reset -/

/-- R451: an image that fits is copied from address 0. -/
theorem resetWith_of_le {rom : List Byte} (h : rom.length ≤ 65536) :
    resetWith rom = .next (writeBytes 0 rom State.reset) := if_pos (decide_eq_true h)

theorem resetWith_of_lt {rom : List Byte} (h : 65536 < rom.length) : resetWith rom = .refused .romTooLarge :=
  if_neg fun hw => Nat.not_le_of_lt h (of_decide_eq_true hw)

theorem eq_of_resetWith {rom : List Byte} {s : State} (h : resetWith rom = .next s) :
    s = writeBytes 0 rom State.reset := by
  obtain hle | hlt := le_or_gt rom.length 65536
  · rw [resetWith_of_le hle] at h
    exact (Host.Outcome.next.inj h).symm
  · rw [resetWith_of_lt hlt] at h
    cases h

/-- R451: memory is the image from address 0, and 0 above it. -/
theorem readByte_writeBytes_reset {rom : List Byte} (h : rom.length ≤ 65536) (a : Word) :
    readByte a (writeBytes 0 rom State.reset) = rom.getD a.toNat 0 := by
  have hreset : readByte a State.reset = 0 := rfl
  rw [readByte_writeBytes_at rom 0 a State.reset h, hreset, sub_zero, List.getD_eq_getElem?_getD]

/-! ## The invariant along a run -/

theorem inv_reset : State.reset.Inv := ⟨rfl, Nat.zero_le _, stopExplained_of_running rfl⟩

/-- Placing bytes in a running state keeps the invariant, which then says nothing of single bytes. -/
theorem writeBytes_inv {s : State} (hs : s.status = .running) (h : s.Inv) (a : Word) (bytes : List Byte) :
    (writeBytes a bytes s).Inv := by
  have hmem := writeBytes_wf bytes a s h.memory
  rw [writeBytes_eq]
  exact ⟨hmem, h.budget, stopExplained_of_running hs⟩

/-- R421: a host write that is let in changes the latches alone. -/
theorem eq_of_hostWrite {cfg : Config} {act : HostAction} {s t : State} (h : hostWrite cfg act s = .next t) :
    t = { s with latches := hostLatches act s.latches } := by
  by_cases hb : betweenHalfFrames cfg s = true
  · rw [hostWrite_of_between hb] at h
    exact (Host.Outcome.next.inj h).symm
  · rw [hostWrite_of_not_between hb] at h
    cases h

/-- The invariant does not speak of the latches. -/
theorem inv_setLatches {s : State} (h : s.Inv) (x : Latches) : ({ s with latches := x } : State).Inv :=
  ⟨h.memory, h.budget, h.stopped⟩

/-! ## The cost of a row -/

/-- The condition of a conditional call or return (R122), the rows whose cost depends on the flags. -/
def formCondition : Form → Option Cond
  | .ccc cond _ => some cond
  | .rcc cond => some cond
  | _ => none

/-- What a row costs above its opcode's cycles (R460): `extra` for a conditional call or return that is taken. -/
def extraCycles (extra : Nat) (f : Flags) : Form → Nat
  | .ccc cond _ => if condHolds cond f then extra else 0
  | .rcc cond => if condHolds cond f then extra else 0
  | _ => 0

/-- The condition that the scheduler reads from an opcode byte is that of the byte's row. -/
theorem costCondition_opcodeOf (i : Instr) : costCondition (opcodeOf i) = formCondition (formOf i) := by
  cases i <;> simp only [opcodeOf, encode, List.headD_cons] <;> rfl

/-- R459: the cycle table agrees with the summary on every row. -/
theorem config_cycles_opcodeOf (i : Instr) : config.cycles (opcodeOf i) = summaryCycles (formOf i) := by
  cases i <;> simp only [opcodeOf, encode, List.headD_cons] <;> rfl

/-- R418, R460: the cost of every row in every configuration. -/
theorem opCost_opcodeOf (cfg : Config) (i : Instr) (f : Flags) :
    opCost cfg (opcodeOf i) f = cfg.cycles (opcodeOf i) + extraCycles cfg.takenExtra f (formOf i) := by
  have hcond := costCondition_opcodeOf i
  cases hf : formOf i with
  | ccc cond | rcc cond =>
    rw [hf] at hcond
    rw [opCost_of_costCondition_some hcond, extraCycles]
    split_ifs <;> rfl
  | _ =>
    rw [hf] at hcond
    exact opCost_of_costCondition_none hcond cfg f

/-! ## The obligations -/

/-- Settles O17: at reset memory is empty, the count is 0 and the status is `Running`. -/
theorem invariantAtReset : Obligations.InvariantAtReset := inv_reset

/-- Settles O18, by induction over the run: a reset places bytes in a running state, every step keeps the invariant
(O16), and the host writes latches alone. -/
theorem reachableStatesMeetInvariant : Obligations.ReachableStatesMeetInvariant := by
  intro s h
  induction h with
  | reset rom s hrom =>
    rw [eq_of_resetWith hrom]
    exact writeBytes_inv rfl inv_reset 0 rom
  | step s t _ hstep ih => exact everyStepKeepsInvariant s t ih hstep
  | host act s t _ hwrite ih =>
    rw [eq_of_hostWrite hwrite]
    exact inv_setLatches ih _

/-- Settles O19: the cost of a row is its opcode's cycles and the extra of its condition, and in this machine the
opcode's cycles are the summary's. -/
theorem takenCallsAndReturnsCostMore : Obligations.TakenCallsAndReturnsCostMore := by
  refine ⟨opCost_opcodeOf, fun i f => ?_⟩
  rw [← config_cycles_opcodeOf]
  exact opCost_opcodeOf config i f

/-- Settles O59: the image is placed in the state after reset, of which that changes memory alone. -/
theorem resetWithRomImage : Obligations.ResetWithRomImage :=
  ⟨fun rom h => ⟨_, resetWith_of_le h, readByte_writeBytes_reset h, writeBytes_eq rom 0 State.reset⟩,
    fun _ => resetWith_of_lt, rfl⟩

end Sys2Proof.Machine
end
